-- ==== Sys2Proof/Word.lean ====
section
/-! DEFINITION. The word types of the HZW6420: bytes of frames, instants of the 32-bit count *now*, and the number ranges of
sites, zones, trunks and batch slots (00_scope.md, "Names and numbering"). -/

namespace Sys2Proof

/-- One byte of a command frame, a response or a trunk frame. -/
abbrev Byte := BitVec 8

/-- A value of *now*: a count of delay units modulo 2^32 (00_scope.md, "Now, instants and leads"; R4). -/
abbrev Instant := BitVec 32

/-- Site numbers 0..63. -/
abbrev SiteNo := Fin 64

/-- Zone numbers 0..31. -/
abbrev ZoneNo := Fin 32

/-- Trunk numbers 0..7. -/
abbrev TrunkNo := Fin 8

/-- The eight batch slots (R147). -/
abbrev SlotNo := Fin 8

end Sys2Proof
end

