-- ==== Sys2Proof/Config.lean ====
section
/-! DEFINITION. What an implementation fixes, and the one free value of the model. The data sheet states the effect and the
value of every command. What the spec leaves to circumstance (the moment RDY rises, R177; the moment a solve completes, R127;
the outcome of the memory test, R189; the order of arrivals in one du) is decided by the commands in the queue and their
operands; the order of two things within one command, which no queue can tell, is the free value below. -/

namespace Sys2Proof.Config

/-- The nominal oscillator frequency at OSC in hertz: four ticks to a du (01, section 1.1; R74). -/
def oscillatorHz : Nat := 40000000

/-- Whether, at a completion, the start of the next solve is taken before the vacating of the sites that pass the
retire-completion test: R129 allows both orders (log 39). A free value, applied to the count of the choices taken before
(`State.choices`), so that every completion has a fresh one; it has no body, and no proof can lean on what it is. -/
opaque startsBeforeVacating : Nat → Bool

end Sys2Proof.Config
end

