-- ==== Sys2Proof/Machine/Limits.lean ====
section
/-! DEFINITION. The fixed numbers of the data sheet, each with the rule that states it. -/

namespace Sys2Proof.Machine

/-- One whole du in the phase accumulator: 2^24 (R2). -/
abbrev accumulatorOne : Nat := 16777216

/-- F at reset and whenever UNCALIBRATED (R3). -/
abbrev nominalF : Nat := 4194304

/-- The largest one-way delay and sample: 16,777,215 du (R44, R45). -/
abbrev maxDelay : Nat := 16777215

/-- The limit of s and of h: 65,535 (R47, R52, R58). -/
abbrev maxCount : Nat := 65535

/-- The settle allowance of a batch: 200,000 du (R160). -/
abbrev settleAllowance : Nat := 200000

/-- How many ticks of the time base's past the model keeps: four byte times at 9,600 bit/s, the longest a delimiter may take
(R76; log 37). -/
abbrev pastTicks : Nat := 166667

/-- A solve completes no later than 20,000 du after its start (R127). -/
abbrev solveBound : Nat := 20000

/-- RDY rises no later than 1,000 du after the rising edge of SEL (R177). -/
abbrev rdyBound : Nat := 1000

/-- The self-test ends no later than 50,000 du after INIT (R189). -/
abbrev selfTestBound : Nat := 50000

/-- Power-on reset lasts until the oscillator has run 40,000 ticks (R187). -/
abbrev powerOnTicks : Nat := 40000

/-- At most 8 notice replies wait on a trunk (R79, R81). -/
abbrev replyCapacity : Nat := 8

/-- The bench responder holds at most 16 undelivered echoes a trunk (R190). -/
abbrev benchCapacity : Nat := 16

/-- The late list holds at most 16 entries (R159). -/
abbrev lateListCapacity : Nat := 16

/-- The acquisition list holds up to four samples (R46). -/
abbrev acquisitionCapacity : Nat := 4

/-- The jump list holds up to three candidates (R54). -/
abbrev jumpCapacity : Nat := 3

end Sys2Proof.Machine
end

