-- ==== Sys2Proof/Machine/Bytes.lean ====
section
/-! DEFINITION. Byte order and the encodings of numbers in answers and trunk frames: most significant byte first, signed
values in two's complement (00_scope.md, "Numbers"; R181). -/

namespace Sys2Proof.Machine

/-- `v` in `n` bytes, most significant first. -/
def bytesOf : Nat → Nat → List Byte
  | 0, _ => []
  | n + 1, v => bytesOf n (v / 256) ++ [BitVec.ofNat 8 v]

/-- A signed number in `n` bytes of two's complement, most significant first. -/
def signedBytesOf (n : Nat) (v : Int) : List Byte :=
  bytesOf n (v % (256 ^ n : Nat)).toNat

/-- `n` bytes of zero: how an absent item is sent (R181). -/
def zeroBytes (n : Nat) : List Byte := List.replicate n 0

/-- A yes/no item: 00h for no, 01h for yes (R181). -/
def boolByte (b : Bool) : Byte := if b then 1 else 0

/-- A yes/no parameter: 00h is no, any other value is yes (R181). -/
def isYes (b : Byte) : Bool := decide (b ≠ 0)

/-- The presence field of an answer with at most eight optional items: one bit each in table order, from the most
significant bit of its one byte (R181). No answer of the catalogue has more than eight. -/
def presenceByte (items : List Bool) : Byte :=
  BitVec.ofNat 8 ((items.foldl (fun acc b => 2 * acc + b.toNat) 0) * 2 ^ (8 - items.length))

/-- An optional item: its encoding when present, and as many zeros when absent (R181). -/
def optionalItem {α : Type} (width : Nat) (encode : α → List Byte) : Option α → List Byte
  | some v => encode v
  | none => zeroBytes width

/-- A site number standing for none is sent as FFh (R181). -/
def siteOrNone : Option SiteNo → Byte
  | some i => BitVec.ofNat 8 i.val
  | none => 255

/-- A list in an answer: a count byte, then the entries (R181). -/
def listItem {α : Type} (encode : α → List Byte) (l : List α) : List Byte :=
  BitVec.ofNat 8 l.length :: l.flatMap encode

end Sys2Proof.Machine
end

