-- ==== Sys2Proof/Syntax.lean ====
section
/-! DEFINITION. The commands and events of spec/opcode_table.json, one constructor a row, with the operands each carries.
A host command's operands are its parameters at their wire widths (R181: a value that fits its width but lies outside its
range reaches the owning rule as out of range). An event's operands are what only the outside knows: the trunk it happens
on, the bytes a trunk delivered, what the memory test read back. -/

namespace Sys2Proof

/-- One row of the table of operations and events (95_what_each_step_holds.md: each whole and indivisible). -/
inductive Instr where
  /-- POWER_ON: power is applied (R187). -/
  | powerOn
  /-- RESET: the RESET pin goes low and is recognized (R187). -/
  | reset
  /-- RESET_RELEASE: the rising edge of RESET (R187). -/
  | resetRelease
  /-- POWER_ON_RESET_RELEASE: the supply is within its limits and the oscillator has run 40,000 ticks (R187). -/
  | powerOnResetRelease
  /-- OSCILLATOR_TICK: one tick of the 40 MHz oscillator (R1, R2). -/
  | oscillatorTick
  /-- CAL_RISING_EDGE: the CAL pin reads high after reading low (R9). -/
  | calRisingEdge
  /-- CAL_FALLING_EDGE: the CAL pin reads low after reading high (R9). -/
  | calFallingEdge
  /-- CAL_WINDOW_EXPIRY: now reaches the window deadline of a measurement (R9). -/
  | calWindowExpiry
  /-- PENDING_FRAME: a whole frame whose SEL fell while RDY was low (R177). -/
  | pendingFrame
  /-- INIT, code 01h: mode byte, self-test byte (R188). -/
  | init (mode selfTest : Byte)
  /-- NOP, code 02h (R184). -/
  | nop
  /-- STATUS, code 03h (R184). -/
  | status
  /-- ACK, code 04h: the cause set, bit 0 for rank 1 (R171, R181). -/
  | ack (causes : BitVec 16)
  /-- CONFIG.SET of H, parameter code 01h (R152, R182). -/
  | configSetHorizon (value : BitVec 32)
  /-- CONFIG.SET of J, parameter code 02h (R61, R182). -/
  | configSetJumpLimit (value : BitVec 32)
  /-- CONFIG.SET of P, parameter code 03h (R90, R182). -/
  | configSetProbePeriod (value : BitVec 32)
  /-- CONFIG.SET of Q, parameter code 04h (R90, R182). -/
  | configSetProbeTimeout (value : BitVec 32)
  /-- CONFIG.SET of G, parameter code 05h (R62, R182). -/
  | configSetHoldoverGrowth (value : BitVec 32)
  /-- CONFIG.SET of U, parameter code 06h (R63, R182). -/
  | configSetUncertaintyCeiling (value : BitVec 32)
  /-- CONFIG.SET of W, parameter code 07h (R182). -/
  | configSetLaunchSpacing (value : BitVec 32)
  /-- CONFIG.SET of D, parameter code 08h (R39, R182). -/
  | configSetDriftThreshold (value : BitVec 32)
  /-- CONFIG.SET of the attention mask, parameter code 09h (R172, R182). -/
  | configSetAttentionMask (value : BitVec 32)
  /-- CONFIG.GET, code 11h (R183). -/
  | configGet
  /-- TRUNK.SET, code 18h: trunk, enable, bit rate in bit/s, g, bench delay (R69, R70). -/
  | trunkSet (trunk enable : Byte) (rate : BitVec 24) (gran : Byte) (benchDelay : BitVec 24)
  /-- TRUNK.GET, code 19h (R92). -/
  | trunkGet (trunk : Byte)
  /-- CAL.START, code 20h: E, the length of the reference pulse in du (R8). -/
  | calStart (e : BitVec 24)
  /-- TIME.READ, code 21h (R14). -/
  | timeRead
  /-- SITE.ADMIT, code 30h: site, trunk, address, A, trim (R26, R27). -/
  | siteAdmit (site trunk address : Byte) (asym : BitVec 16) (trim : BitVec 24)
  /-- SITE.AMEND, code 31h: site, mask, A, trim, trunk, address (R28–R30). -/
  | siteAmend (site mask : Byte) (asym : BitVec 16) (trim : BitVec 24) (trunk address : Byte)
  /-- SITE.READ, code 32h: site, acknowledge (R37, R38). -/
  | siteRead (site acknowledge : Byte)
  /-- SITE.SUSPEND, code 33h (R31). -/
  | siteSuspend (site : Byte)
  /-- SITE.RESUME, code 34h (R32). -/
  | siteResume (site : Byte)
  /-- SITE.RETIRE, code 35h (R33). -/
  | siteRetire (site : Byte)
  /-- ZONE.DEFINE, code 40h: zone, tolerance, yield member (FFh none), and as many (site, p) pairs as its member count
  says (R110, R111; a count that disagrees with the frame is refused by the port, R178). -/
  | zoneDefine (zone : Byte) (tolerance : BitVec 16) (yieldMember : Byte) (members : List (Byte × BitVec 16))
  /-- ZONE.DELETE, code 41h (R112). -/
  | zoneDelete (zone : Byte)
  /-- ZONE.READ, code 42h (R120). -/
  | zoneRead (zone : Byte)
  /-- PLAN.READ, code 48h: first site, count (R143). -/
  | planRead (first count : Byte)
  /-- BATCH.POST, code 50h: tag, requested launch, and a payload of the length the frame declares (R149, R150, R178). -/
  | batchPost (tag : Byte) (requested : Instant) (payload : List Byte)
  /-- BATCH.WITHDRAW, code 51h (R154). -/
  | batchWithdraw (tag : Byte)
  /-- BATCH.REPORT, code 52h (R164). -/
  | batchReport
  /-- NOTICE.TAKE, code 58h (R104). -/
  | noticeTake
  /-- SELF_TEST_END: the self-test of INIT ends; the operands say of each store in test order whether its read-back
  agreed with what was written (R189). -/
  | selfTestEnd (siteOk zoneOk planOk batchOk : Bool)
  /-- SLOT_DEADLINE_EXPIRY: now reaches the slot deadline of a trunk (R83). -/
  | slotDeadlineExpiry (trunk : TrunkNo)
  /-- PROBE_FRAME_START: a probe request reaches the head of an idle transmitter (R84). -/
  | probeFrameStart (trunk : TrunkNo)
  /-- BATCH_FRAME_START: the oldest waiting batch frame starts on an idle transmitter (R79, R158). -/
  | batchFrameStart (trunk : TrunkNo)
  /-- NOTICE_REPLY_START: the oldest waiting notice reply starts on an idle transmitter (R79). -/
  | noticeReplyStart (trunk : TrunkNo)
  /-- FRAME_END: the last stop bit of the frame in transmission leaves (R79, R80). -/
  | frameEnd (trunk : TrunkNo)
  /-- ECHO_TAKEN: the last check byte of an ECHO is received; the operand holds the bits on RXD after the delimiter's last
  stop bit, mark as true, the last stop bit of the frame among them (R74, R76, R86). -/
  | echoTaken (trunk : TrunkNo) (bits : List Bool)
  /-- NOTICE_ARRIVAL: the last check byte of a NOTICE is received; the operand holds the bits on RXD as ECHO_TAKEN's does (R74,
  R76, R94). -/
  | noticeArrival (trunk : TrunkNo) (bits : List Bool)
  /-- RECEIVE_FRAME_DISCARD: the framer discards the frame it collects; the operands are the bits on RXD after the
  delimiter's last stop bit, to the last data bit of the byte that shows the fault, and whether that byte's stop bit then reads
  space (R74, R77). -/
  | receiveFrameDiscard (trunk : TrunkNo) (bits : List Bool) (stopBitAtSpace : Bool)
  /-- RECEIVE_GAP: the line has rested at mark within a frame for this many oscillator ticks (R77). -/
  | receiveGap (trunk : TrunkNo) (markTicks : Nat)
  /-- PROBE_TIMEOUT_EXPIRY: now reaches the timeout deadline of the outstanding probe (R88). -/
  | probeTimeoutExpiry (trunk : TrunkNo)
  /-- BENCH_ECHO_DELIVERY: the bench responder begins to deliver its first undelivered echo (R190). -/
  | benchEchoDelivery (trunk : TrunkNo)
  /-- DISPATCH_DEADLINE_EXPIRY: now reaches the dispatch instant of the first batch in the pending order (R148, R151). -/
  | dispatchDeadlineExpiry
  /-- SETTLE_DEADLINE_EXPIRY: now reaches the settle deadline of the batch in a slot (R161). -/
  | settleDeadlineExpiry (slot : SlotNo)
  /-- SOLVE_START: the stale flag is yes and the solver IDLE (R125). -/
  | solveStart
  /-- SOLVE_COMPLETION: the running solve completes (R127, R128). -/
  | solveCompletion
  /-- COMMAND_FRAME_START: SEL falls while RDY is high (R177, R179). -/
  | commandFrameStart
  /-- BAD_COMMAND_FRAME: SEL rises on a command frame that spells no command of the table; the operand holds the bits that
  SDI carried, one at each rising edge of SCK (R176, R178). -/
  | badCommandFrame (bits : List Bool)
  /-- DELIMITER_FOUND: the framer finds C5h 3Ah; the operand holds the bits on RXD since hunting began, mark as true, each with
  how many oscillator ticks ago it came (R74, R76). -/
  | delimiterFound (trunk : TrunkNo) (line : List (Bool × Nat))
  deriving DecidableEq, Repr

end Sys2Proof
end

