-- ==== Sys2Proof/Decode.lean ====
section
/-! DEFINITION. From bits to commands. The rows of spec/opcode_table.json give no bits, so a table word spells no command;
what spells a host command is the bytes of a command frame, read here by the tests and the catalogue of chapter 10 (R176,
R178, section 10.3), with the encoder of the same catalogue after it. -/

namespace Sys2Proof

/-- The command a word spells by the table's bits: none, since no row of the table gives any (log 22). -/
def decodeTableWord (_nbits _w : Nat) : Option Instr := none

/-- Why the bytes of a command frame spell no command of the table. -/
inductive FrameFault where
  /-- Fewer than two bytes, or a parameter length that is not right (R178). -/
  | badLength
  /-- A command code that is not in the catalogue (R178). -/
  | badCommand
  /-- A CONFIG.SET of a parameter code other than 01h..09h: it passes R178 and is refused by R182. -/
  | unknownParameter
  deriving DecidableEq, Repr

/-- The (site, p) pairs of a ZONE.DEFINE, three bytes each (section 10.3). -/
def memberPairs : List Byte → Option (List (Byte × BitVec 16))
  | [] => some []
  | site :: p1 :: p0 :: rest => (memberPairs rest).map ((site, p1 ++ p0) :: ·)
  | _ => none

/-- The command of a CONFIG.SET (R182, section 10.5). -/
def configCommand (code : Byte) (value : BitVec 32) : Except FrameFault Instr :=
  match code.toNat with
  | 1 => .ok (.configSetHorizon value)
  | 2 => .ok (.configSetJumpLimit value)
  | 3 => .ok (.configSetProbePeriod value)
  | 4 => .ok (.configSetProbeTimeout value)
  | 5 => .ok (.configSetHoldoverGrowth value)
  | 6 => .ok (.configSetUncertaintyCeiling value)
  | 7 => .ok (.configSetLaunchSpacing value)
  | 8 => .ok (.configSetDriftThreshold value)
  | 9 => .ok (.configSetAttentionMask value)
  | _ => .error .unknownParameter

/-- Whether a command code is in the catalogue (section 10.3). -/
def knownCode (code : Byte) : Bool :=
  [0x01, 0x02, 0x03, 0x04, 0x10, 0x11, 0x18, 0x19, 0x20, 0x21, 0x30, 0x31, 0x32, 0x33, 0x34, 0x35, 0x40, 0x41, 0x42, 0x48,
    0x50, 0x51, 0x52, 0x58].contains code.toNat

/-- The command of a catalogued code with its parameters, each of the length the command requires (R178, section 10.3). -/
def commandOf (code : Byte) (p : List Byte) : Except FrameFault Instr :=
  match code.toNat, p with
  | 0x01, [mode, selfTest] => .ok (.init mode selfTest)
  | 0x02, [] => .ok .nop
  | 0x03, [] => .ok .status
  | 0x04, [c1, c0] => .ok (.ack (c1 ++ c0))
  | 0x10, [code, v3, v2, v1, v0] => configCommand code (v3 ++ v2 ++ v1 ++ v0)
  | 0x11, [] => .ok .configGet
  | 0x18, [trunk, enable, r2, r1, r0, g, b2, b1, b0] =>
    .ok (.trunkSet trunk enable (r2 ++ r1 ++ r0) g (b2 ++ b1 ++ b0))
  | 0x19, [trunk] => .ok (.trunkGet trunk)
  | 0x20, [e2, e1, e0] => .ok (.calStart (e2 ++ e1 ++ e0))
  | 0x21, [] => .ok .timeRead
  | 0x30, [site, trunk, address, a1, a0, t2, t1, t0] =>
    .ok (.siteAdmit site trunk address (a1 ++ a0) (t2 ++ t1 ++ t0))
  | 0x31, [site, mask, a1, a0, t2, t1, t0, trunk, address] =>
    .ok (.siteAmend site mask (a1 ++ a0) (t2 ++ t1 ++ t0) trunk address)
  | 0x32, [site, acknowledge] => .ok (.siteRead site acknowledge)
  | 0x33, [site] => .ok (.siteSuspend site)
  | 0x34, [site] => .ok (.siteResume site)
  | 0x35, [site] => .ok (.siteRetire site)
  | 0x40, zone :: t1 :: t0 :: yieldMember :: count :: rest =>
    match memberPairs rest with
    | some members =>
      if members.length = count.toNat then .ok (.zoneDefine zone (t1 ++ t0) yieldMember members) else .error .badLength
    | none => .error .badLength
  | 0x41, [zone] => .ok (.zoneDelete zone)
  | 0x42, [zone] => .ok (.zoneRead zone)
  | 0x48, [first, count] => .ok (.planRead first count)
  | 0x50, tag :: r3 :: r2 :: r1 :: r0 :: len :: payload =>
    if payload.length = len.toNat then .ok (.batchPost tag (r3 ++ r2 ++ r1 ++ r0) payload) else .error .badLength
  | 0x51, [tag] => .ok (.batchWithdraw tag)
  | 0x52, [] => .ok .batchReport
  | 0x58, [] => .ok .noticeTake
  | _, _ => .error .badLength

/-- The command the complete bytes of a command frame spell, by the four tests of R178 in their order. Bytes beyond the
declared parameters are ignored (R176). -/
def parseFrame : List Byte → Except FrameFault Instr
  | code :: len :: rest =>
    if knownCode code then
      if 200 < len.toNat ∨ rest.length < len.toNat then .error .badLength
      else commandOf code (rest.take len.toNat)
    else .error .badCommand
  | _ => .error .badLength

/-- The complete bytes of the bits that SDI carries in a frame, one bit at each rising edge of SCK: most significant bit first,
the bits of a byte left incomplete ignored (R176). -/
def sdiBytes : List Bool → List Byte
  | b7 :: b6 :: b5 :: b4 :: b3 :: b2 :: b1 :: b0 :: rest =>
    BitVec.ofNat 8 ([b7, b6, b5, b4, b3, b2, b1, b0].foldl (fun n b => 2 * n + b.toNat) 0) :: sdiBytes rest
  | _ => []

/-- The command the bits of a command frame spell (R176, R178). -/
def parseBits (bits : List Bool) : Except FrameFault Instr := parseFrame (sdiBytes bits)

/-! ### The encoder -/

open Machine (bytesOf)

/-- The code and the parameter bytes of a host command (section 10.3); none for an event. -/
def frameParts : Instr → Option (Byte × List Byte)
  | .init mode selfTest => some (0x01, [mode, selfTest])
  | .nop => some (0x02, [])
  | .status => some (0x03, [])
  | .ack causes => some (0x04, bytesOf 2 causes.toNat)
  | .configSetHorizon v => some (0x10, 1 :: bytesOf 4 v.toNat)
  | .configSetJumpLimit v => some (0x10, 2 :: bytesOf 4 v.toNat)
  | .configSetProbePeriod v => some (0x10, 3 :: bytesOf 4 v.toNat)
  | .configSetProbeTimeout v => some (0x10, 4 :: bytesOf 4 v.toNat)
  | .configSetHoldoverGrowth v => some (0x10, 5 :: bytesOf 4 v.toNat)
  | .configSetUncertaintyCeiling v => some (0x10, 6 :: bytesOf 4 v.toNat)
  | .configSetLaunchSpacing v => some (0x10, 7 :: bytesOf 4 v.toNat)
  | .configSetDriftThreshold v => some (0x10, 8 :: bytesOf 4 v.toNat)
  | .configSetAttentionMask v => some (0x10, 9 :: bytesOf 4 v.toNat)
  | .configGet => some (0x11, [])
  | .trunkSet trunk enable rate g bench =>
    some (0x18, [trunk, enable] ++ bytesOf 3 rate.toNat ++ [g] ++ bytesOf 3 bench.toNat)
  | .trunkGet trunk => some (0x19, [trunk])
  | .calStart e => some (0x20, bytesOf 3 e.toNat)
  | .timeRead => some (0x21, [])
  | .siteAdmit site trunk address asym trim =>
    some (0x30, [site, trunk, address] ++ bytesOf 2 asym.toNat ++ bytesOf 3 trim.toNat)
  | .siteAmend site mask asym trim trunk address =>
    some (0x31, [site, mask] ++ bytesOf 2 asym.toNat ++ bytesOf 3 trim.toNat ++ [trunk, address])
  | .siteRead site acknowledge => some (0x32, [site, acknowledge])
  | .siteSuspend site => some (0x33, [site])
  | .siteResume site => some (0x34, [site])
  | .siteRetire site => some (0x35, [site])
  | .zoneDefine zone tolerance yieldMember members =>
    some (0x40, zone :: (bytesOf 2 tolerance.toNat ++ [yieldMember, BitVec.ofNat 8 members.length]
      ++ members.flatMap fun m => m.1 :: bytesOf 2 m.2.toNat))
  | .zoneDelete zone => some (0x41, [zone])
  | .zoneRead zone => some (0x42, [zone])
  | .planRead first count => some (0x48, [first, count])
  | .batchPost tag requested payload =>
    some (0x50, tag :: (bytesOf 4 requested.toNat ++ [BitVec.ofNat 8 payload.length] ++ payload))
  | .batchWithdraw tag => some (0x51, [tag])
  | .batchReport => some (0x52, [])
  | .noticeTake => some (0x58, [])
  | .powerOn | .reset | .resetRelease | .powerOnResetRelease | .oscillatorTick | .calRisingEdge | .calFallingEdge
  | .calWindowExpiry | .pendingFrame | .selfTestEnd _ _ _ _ | .slotDeadlineExpiry _ | .probeFrameStart _
  | .batchFrameStart _ | .noticeReplyStart _ | .frameEnd _ | .echoTaken _ _ | .noticeArrival _ _
  | .receiveFrameDiscard _ _ _ | .receiveGap _ _ | .probeTimeoutExpiry _ | .benchEchoDelivery _ | .dispatchDeadlineExpiry
  | .settleDeadlineExpiry _ | .solveStart | .solveCompletion | .commandFrameStart | .badCommandFrame _
  | .delimiterFound _ _ => none

/-- The bytes of the command frame of a host command: code, parameter length, parameters (R185). -/
def encodeFrame (i : Instr) : Option (List Byte) :=
  (frameParts i).map fun p => p.1 :: BitVec.ofNat 8 p.2.length :: p.2

end Sys2Proof
end

