-- ==== Sys2Proof/Machine/Table.lean ====
section
/-! DEFINITION. A fixed number of like records, numbered from 0: the 64 site records, 32 zone records, eight trunks and eight
batch slots. A list together with the proof of its length, so that a table cannot have a record too many or too few. -/

namespace Sys2Proof

/-- `n` records of one kind, numbered 0..n − 1. -/
structure Table (α : Type) (n : Nat) where
  /-- The records in ascending number. -/
  cells : List α
  /-- There are exactly `n` of them. -/
  size : cells.length = n
  deriving DecidableEq, Repr

/-- The record with number `i`. -/
def Table.get {α : Type} {n : Nat} (t : Table α n) (i : Fin n) : α :=
  t.cells[i.val]'(by rw [t.size]; exact i.isLt)

/-- The table whose record number `i` is `f i`. -/
def Table.tabulate {α : Type} {n : Nat} (f : Fin n → α) : Table α n :=
  ⟨(List.finRange n).map f, by simp⟩

/-- The table with record `i` replaced. -/
def Table.set {α : Type} {n : Nat} (t : Table α n) (i : Fin n) (a : α) : Table α n :=
  ⟨t.cells.set i.val a, by simp [t.size]⟩

/-- The table of `n` equal records. -/
def Table.replicate {α : Type} (n : Nat) (a : α) : Table α n :=
  ⟨List.replicate n a, by simp⟩

/-- Every record changed by a function of its number and its content. -/
def Table.mapIdx {α β : Type} {n : Nat} (f : Fin n → α → β) (t : Table α n) : Table β n :=
  Table.tabulate fun i => f i (t.get i)

/-- Whether some record satisfies `p`. -/
def Table.any {α : Type} {n : Nat} (p : α → Bool) (t : Table α n) : Bool :=
  t.cells.any p

/-- How many records satisfy `p`. -/
def Table.count {α : Type} {n : Nat} (p : α → Bool) (t : Table α n) : Nat :=
  t.cells.countP p

end Sys2Proof
end

