-- ==== Sys2Proof/Machine/State.lean ====
section
/-! DEFINITION. The state of the part: every record the data sheet gives its blocks, as plain data, and the state after
power-on. INVENTORY.md lists the fields with their rules and reset values. -/

namespace Sys2Proof.Machine

/-! ### Time base (chapter 1) -/

/-- The outcomes of a calibration measurement (R13). -/
inductive CalOutcome where
  | accepted
  | timeout
  | range
  deriving DecidableEq, Repr

/-- The phases of a measurement (R9); "pulse high" has recorded the start count. -/
inductive MeasurePhase where
  | awaitingLow
  | awaitingRise
  | pulseHigh (startCount : BitVec 32)
  deriving DecidableEq, Repr

/-- A measurement in progress (R8): the return state (yes for CALIBRATED), E, the window deadline and the phase. -/
structure Measurement where
  returnCalibrated : Bool
  e : Nat
  deadline : Instant
  phase : MeasurePhase
  deriving DecidableEq, Repr

/-- The calibration state (R7). -/
inductive CalState where
  | uncalibrated
  | measuring (m : Measurement)
  | calibrated
  deriving DecidableEq, Repr

/-- The last-outcome record (R13): C when one was formed, F when one was computed. -/
structure LastOutcome where
  outcome : CalOutcome
  e : Nat
  c : Option Nat
  f : Option Nat
  instant : Instant
  deriving DecidableEq, Repr

/-- The time base (R1–R4, R7, R13). The last two fields are the model's own: what it takes to tell the value now had some
ticks ago, at the first bit of a frame that is known for one only later (R4, R76; log 10). -/
structure TimeBase where
  rawCount : BitVec 32
  fraction : Nat
  f : Nat
  now : Instant
  cal : CalState
  last : Option LastOutcome
  /-- The level of the CAL pin as last sampled (R9). -/
  calPin : Bool
  /-- The ticks since F took its value by a reset or an installation, held at `pastTicks`. -/
  sinceF : Nat
  /-- F before its latest installation; none after a reset. -/
  fBefore : Option Nat
  deriving DecidableEq, Repr

/-! ### Site table (chapters 2, 3 and 5) -/

/-- The seven states of a site, in the order R181 numbers them. -/
inductive SiteState where
  | vacant
  | probing
  | aligned
  | holdover
  | suspect
  | suspended
  | retiring
  deriving DecidableEq, Repr

/-- A site's state with the fields that are present in that state alone (R16): the acquisition list in PROBING and SUSPECT,
the jump list in ALIGNED and HOLDOVER, h in HOLDOVER, site-held in SUSPENDED. -/
inductive SitePhase where
  | vacant
  | probing (acquisition : List Nat)
  | aligned (jump : List Nat)
  | holdover (jump : List Nat) (h : Nat)
  | suspect (acquisition : List Nat)
  | suspended (siteHeld : Bool)
  | retiring
  deriving DecidableEq, Repr

/-- What the host has said of a site (R26): present in every state but VACANT. -/
structure Link where
  trunk : TrunkNo
  address : Nat
  asym : Int
  trim : Int
  deriving DecidableEq, Repr

/-- The estimate of a site that has ever been aligned (R16, R22): d and the reported delay. -/
structure Estimate where
  d : Nat
  reported : Nat
  deriving DecidableEq, Repr

/-- The five notice kinds, in the order chapter 5 names them. -/
inductive NoticeKind where
  | keyfail
  | paFault
  | siteRestart
  | serviceOff
  | serviceOn
  deriving DecidableEq, Repr

/-- A notice in a slot (R97). -/
structure Notice where
  kind : NoticeKind
  detail : BitVec 16
  instant : Instant
  deriving DecidableEq, Repr

/-- A site record (R16). The presence of `est` is "ever aligned". -/
structure SiteRecord where
  phase : SitePhase
  link : Option Link
  est : Option Estimate
  s : Nat
  m : Nat
  drift : Bool
  notice : Option Notice
  deriving DecidableEq, Repr

/-! ### Trunk controllers (chapters 4 and 11) -/

/-- The six bit rates, in bit/s (R68). -/
inductive BitRate where
  | r9600
  | r19200
  | r38400
  | r56000
  | r64000
  | r128000
  deriving DecidableEq, Repr

/-- The three granularities: 1, 10 and 100 du (R68). -/
inductive Granularity where
  | du1
  | du10
  | du100
  deriving DecidableEq, Repr

/-- The slot timer (R82). WAITING holds the site of the probe request that waits in the queue. -/
inductive SlotTimer where
  | stopped
  | running (deadline : Instant)
  | waiting (site : SiteNo)
  deriving DecidableEq, Repr

/-- The outstanding probe (R85). -/
structure Outstanding where
  site : SiteNo
  trunk : TrunkNo
  address : Nat
  seq : Byte
  instant : Instant
  deadline : Instant
  deriving DecidableEq, Repr

/-- The three answers to a notice (R94). -/
inductive Decision where
  | taken
  | busy
  | unknown
  deriving DecidableEq, Repr

/-- A notice reply waiting to be sent (R81). -/
structure NoticeReply where
  address : Byte
  seq : Byte
  decision : Decision
  deriving DecidableEq, Repr

/-- What a frame in transmission is (R92). A batch frame is known by its batch's slot. -/
inductive TxItem where
  | probe (site : SiteNo)
  | batch (slot : SlotNo)
  | reply (address : Byte)
  deriving DecidableEq, Repr

/-- A frame in transmission: what it is, its bytes on the line (R75, R186), and the raw count at its start, from which its
length in oscillator ticks is counted (R74). -/
structure Transmission where
  item : TxItem
  frame : List Byte
  startRaw : BitVec 32
  deriving DecidableEq, Repr

/-- The receive framer (R76, R93): idle on a disabled trunk, hunting, or collecting a frame whose instant is recorded. -/
inductive Framer where
  | idle
  | hunting
  | collecting (instant : Instant)
  deriving DecidableEq, Repr

/-- An echo the bench responder has built and not yet delivered (R190). -/
structure BenchEcho where
  address : Byte
  seq : Byte
  due : Instant
  deriving DecidableEq, Repr

/-- The echo the bench responder is delivering: since which instant, and the raw count there (R190). -/
structure BenchDelivery where
  echo : BenchEcho
  instant : Instant
  startRaw : BitVec 32
  deriving DecidableEq, Repr

/-- The bench responder of one trunk (R190, R191). -/
structure BenchResponder where
  undelivered : List BenchEcho
  delivering : Option BenchDelivery
  deriving DecidableEq, Repr

/-- A trunk controller (R68, R93). The transmit queue is `batchQueue`, `replyQueue` and the request in `timer` (R79). -/
structure Trunk where
  enable : Bool
  rate : BitRate
  gran : Granularity
  benchDelay : Nat
  timer : SlotTimer
  lastProbed : Option SiteNo
  nextSeq : Byte
  outstanding : Option Outstanding
  batchQueue : List SlotNo
  replyQueue : List NoticeReply
  tx : Option Transmission
  framer : Framer
  discards : Nat
  strays : Nat
  bench : BenchResponder
  deriving DecidableEq, Repr

/-! ### Zone table (chapter 6) -/

/-- A defined zone's record (R108): tolerance, (site, p) pairs in definition order, yield member. -/
structure ZoneBody where
  tolerance : Nat
  members : List (SiteNo × Nat)
  yieldMember : Option SiteNo
  deriving DecidableEq, Repr

/-- A zone record (R108, R116): the presence of `body` is "defined". -/
structure ZoneRecord where
  body : Option ZoneBody
  revision : BitVec 16
  deriving DecidableEq, Repr

/-! ### Solver and plan (chapter 7) -/

/-- Why a site is EXCLUDED (R126). -/
inductive Reason where
  | vacant
  | state
  deriving DecidableEq, Repr

/-- What a snapshot holds of a launch-eligible site (R126). -/
structure EligibleSite where
  trunk : TrunkNo
  address : Nat
  d : Nat
  trim : Int
  u : Nat
  deriving DecidableEq, Repr

/-- What a snapshot holds of a site (R126). -/
inductive SnapSite where
  | eligible (e : EligibleSite)
  | ineligible (reason : Reason)
  deriving DecidableEq, Repr

/-- What a snapshot holds of a defined zone (R118). -/
structure SnapZone where
  zone : ZoneNo
  revision : BitVec 16
  body : ZoneBody
  deriving DecidableEq, Repr

/-- The snapshot a solve works from (R126). -/
structure Snapshot where
  sites : Table SnapSite 64
  enables : Table Bool 8
  grans : Table Granularity 8
  zones : List SnapZone
  horizon : Nat
  calibrated : Bool
  deriving DecidableEq, Repr

/-- The verdict on a zone (R136), in the order ZONE.READ names them (R120). -/
inductive Verdict where
  | satisfied
  | violated
  | indeterminate
  deriving DecidableEq, Repr

/-- What a plan holds of a LAUNCH or MUTED site (R141). -/
structure PlannedSite where
  trunk : TrunkNo
  address : Nat
  rawHold : Int
  short : Bool
  deriving DecidableEq, Repr

/-- A site's disposition in a plan (R139). -/
inductive Disposition where
  | launch (p : PlannedSite)
  | muted (p : PlannedSite)
  | excluded (reason : Reason)
  deriving DecidableEq, Repr

/-- A zone's entry in a plan (R141). -/
structure ZoneEntry where
  zone : ZoneNo
  revision : BitVec 16
  firstPass : Verdict
  final : Verdict
  spread : Option Nat
  deriving DecidableEq, Repr

/-- A published plan (R141). -/
structure Plan where
  epoch : Nat
  provisional : Bool
  horizon : Nat
  grans : Table Granularity 8
  sites : Table Disposition 64
  zones : List ZoneEntry
  deriving DecidableEq, Repr

/-- A running solve (R123): its snapshot and the instant it started. -/
structure Solve where
  snapshot : Snapshot
  start : Instant
  deriving DecidableEq, Repr

/-- The solver (R123). No `latest` is the empty plan, epoch 0 (R130); no `running` is IDLE. -/
structure Solver where
  stale : Bool
  running : Option Solve
  latest : Option Plan
  deriving DecidableEq, Repr

/-! ### Batch scheduler (chapter 8) -/

/-- A sent hold and a lateness, fixed as the frame starts (R158). -/
structure FixedHold where
  hold : Nat
  lateness : Nat
  deriving DecidableEq, Repr

/-- An entry of a hold list (R156, R158). -/
structure HoldEntry where
  site : SiteNo
  address : Nat
  rawHold : Int
  fixed : Option FixedHold
  deriving DecidableEq, Repr

/-- The hold list of one trunk (R156). -/
structure HoldList where
  trunk : TrunkNo
  entries : List HoldEntry
  deriving DecidableEq, Repr

/-- The result of a batch, in the order R163 names them. -/
inductive BatchResult where
  | launched
  | slipped
  | noPlan
  | noSites
  deriving DecidableEq, Repr

/-- The counts and the late list of a report (R163); its other items are the slot's. -/
structure Report where
  result : BatchResult
  sent : Nat
  late : Nat
  dropped : Nat
  lateList : List (SiteNo × Nat)
  deriving DecidableEq, Repr

/-- What a batch holds from dispatch on (R147): the epoch and the horizon of the plan taken, the hold lists, the report. -/
structure Dispatched where
  epoch : Nat
  planHorizon : Nat
  holdLists : List HoldList
  report : Report
  deriving DecidableEq, Repr

/-- The states of an occupied slot with the fields present in each (R147). -/
inductive BatchPhase where
  | pending
  | dispatching (x : Dispatched) (outstanding : Nat)
  | inFlight (x : Dispatched) (settle : Instant)
  | done (x : Dispatched)
  deriving DecidableEq, Repr

/-- A batch in an occupied slot (R147). -/
structure Batch where
  tag : Byte
  posting : Nat
  payload : List Byte
  requested : Instant
  actual : Instant
  dispatch : Instant
  slipped : Bool
  phase : BatchPhase
  deriving DecidableEq, Repr

/-! ### Attention unit (chapter 9) -/

/-- One mark for each of the nine causes, in rank order (R167). -/
structure CauseSet where
  fault : Bool
  cal : Bool
  zone : Bool
  suspect : Bool
  holdover : Bool
  step : Bool
  notice : Bool
  report : Bool
  drift : Bool
  deriving DecidableEq, Repr

/-- The attention unit (R167, R172): present flags, mask (yes = masked), the outcome CAL carries. -/
structure Attention where
  present : CauseSet
  mask : CauseSet
  calOutcome : Option CalOutcome
  deriving DecidableEq, Repr

/-! ### Configuration store and command port (chapters 10 and 11) -/

/-- The operating parameters (R182); the ninth, the attention mask, is the attention unit's. -/
structure Params where
  horizon : Nat
  jumpLimit : Nat
  probePeriod : Nat
  probeTimeout : Nat
  growth : Nat
  ceiling : Nat
  spacing : Nat
  driftThreshold : Nat
  deriving DecidableEq, Repr

/-- The operating states (R180). -/
inductive OpState where
  | uninit
  | testing
  | ready
  | fault
  deriving DecidableEq, Repr

/-- The two modes (R188). -/
inductive Mode where
  | align
  | bench
  deriving DecidableEq, Repr

/-- The four stores of the self-test, in test order (R189). -/
inductive Store where
  | site
  | zone
  | plan
  | batch
  deriving DecidableEq, Repr

/-- The result codes (10, section 10.4). -/
inductive ResultCode where
  | ok
  | pending
  | clamped
  | slipped
  | badCommand
  | badLength
  | badValue
  | notReady
  | busy
  | noSuch
  | inUse
  | addrInUse
  | badState
  | siteHeld
  | trunkActive
  | queueFull
  | tagInUse
  | tooFar
  | spacing
  | tooLate
  | notFound
  | empty
  deriving DecidableEq, Repr

/-- An answer: a result code and its data (R179). -/
structure Answer where
  code : ResultCode
  data : List Byte
  deriving DecidableEq, Repr

/-- The command port (R176–R180). -/
structure CommandPort where
  op : OpState
  mode : Mode
  failing : Option Store
  /-- The response buffer; none once its answer has passed to the frame in progress (R179). -/
  response : Option Answer
  /-- The level of RDY. -/
  rdy : Bool
  /-- While RDY is low after a command frame: the instant that frame's SEL rose (R177). -/
  selRise : Option Instant
  /-- A command frame is in progress: SEL fell while RDY was high and has not risen. -/
  frameOpen : Bool
  /-- The header and data bytes of the latest frame; what SDO shifts out of them is `clockedOut` (R176; log 29). -/
  sdo : List Byte
  deriving DecidableEq, Repr

/-- The sources of reset (R187): power-on reset with the ticks the oscillator has run in it, and the RESET pin. -/
structure ResetUnit where
  por : Bool
  porTicks : Nat
  pinLow : Bool
  deriving DecidableEq, Repr

/-! ### The whole part -/

/-- The state of the part, and the queue of commands waiting to be taken, first in, first out. -/
structure State where
  pending : List Instr
  /-- How many free choices have been taken (log 39): the model's own, and no reset clears it. -/
  choices : Nat
  resetUnit : ResetUnit
  time : TimeBase
  sites : Table SiteRecord 64
  noticeOrder : List SiteNo
  trunks : Table Trunk 8
  zones : Table ZoneRecord 32
  solver : Solver
  slots : Table (Option Batch) 8
  attention : Attention
  config : Params
  port : CommandPort
  deriving DecidableEq, Repr

/-! ### Reset values -/

/-- The time base after a reset (R15). The CAL pin is an input and keeps its level. -/
def TimeBase.cleared (calPin : Bool) : TimeBase :=
  { rawCount := 0, fraction := 0, f := nominalF, now := 0, cal := .uncalibrated, last := none, calPin := calPin, sinceF := 0
    fBefore := none }

/-- A site record after a reset and after vacating (R36, R41). -/
def SiteRecord.vacant : SiteRecord :=
  { phase := .vacant, link := none, est := none, s := 0, m := 0, drift := false, notice := none }

/-- A bench responder with nothing waiting (R191). -/
def BenchResponder.empty : BenchResponder := { undelivered := [], delivering := none }

/-- A trunk controller after a reset (R93). -/
def Trunk.cleared : Trunk :=
  { enable := false, rate := .r9600, gran := .du1, benchDelay := 0, timer := .stopped, lastProbed := none, nextSeq := 0,
    outstanding := none, batchQueue := [], replyQueue := [], tx := none, framer := .idle, discards := 0, strays := 0,
    bench := .empty }

/-- A zone record after a reset (R122). -/
def ZoneRecord.cleared : ZoneRecord := { body := none, revision := 0 }

/-- The solver after a reset: IDLE, not stale, the empty plan (R146). -/
def Solver.cleared : Solver := { stale := false, running := none, latest := none }

/-- No cause. -/
def CauseSet.none : CauseSet :=
  { fault := false, cal := false, zone := false, suspect := false, holdover := false, step := false, notice := false,
    report := false, drift := false }

/-- The attention unit after a reset (R175). -/
def Attention.cleared : Attention := { present := .none, mask := .none, calOutcome := Option.none }

/-- The operating parameters after a reset (R182, section 10.5). -/
def Params.cleared : Params :=
  { horizon := 1000000, jumpLimit := 500, probePeriod := 1000000, probeTimeout := 200000, growth := 10, ceiling := 2000,
    spacing := 100000, driftThreshold := 0 }

/-- The command port while reset is held (R179). -/
def CommandPort.cleared : CommandPort :=
  { op := .uninit, mode := .align, failing := none, response := some { code := .ok, data := [] }, rdy := false,
    selRise := none, frameOpen := false, sdo := [] }

/-- The part as power is applied: held in power-on reset, every block at its reset values, no command waiting (R187). The
levels of the CAL and RESET pins are the model's choice (log 2), as is the count of free choices (log 39). -/
def State.reset : State :=
  { pending := []
    choices := 0
    resetUnit := { por := true, porTicks := 0, pinLow := false }
    time := TimeBase.cleared false
    sites := Table.replicate 64 SiteRecord.vacant
    noticeOrder := []
    trunks := Table.replicate 8 Trunk.cleared
    zones := Table.replicate 32 ZoneRecord.cleared
    solver := Solver.cleared
    slots := Table.replicate 8 none
    attention := Attention.cleared
    config := Params.cleared
    port := CommandPort.cleared }

/-! ### How a step can stop -/

/-- The faults of the part: none. The data sheet gives no event that stops it; the operating state FAULT is a state the
part runs in (R189). -/
inductive Fault where
  deriving DecidableEq, Repr

/-- The refusals of the model. -/
inductive Refusal where
  /-- Raised by an arm of exec whose command has no meaning yet; no arm is such now. Safe: the model stops. -/
  | notModelled (mnemonic : String)
  deriving DecidableEq, Repr

end Sys2Proof.Machine
end

