-- ==== Sys2Proof/Machine/Flags.lean ====
section
/-! DEFINITION. The flags every command may raise: the nine attention causes and the ATTN line (chapter 9), and the solver's
stale flag (R123, R124). -/

namespace Sys2Proof.Machine

/-! ### Cause sets -/

/-- A cause set as the number of its two bytes: bit 0 for rank 1 (FAULT) up to bit 8 for rank 9 (DRIFT) (R181). -/
def CauseSet.toNat (c : CauseSet) : Nat :=
  c.fault.toNat + 2 * c.cal.toNat + 4 * c.zone.toNat + 8 * c.suspect.toNat + 16 * c.holdover.toNat + 32 * c.step.toNat
    + 64 * c.notice.toNat + 128 * c.report.toNat + 256 * c.drift.toNat

/-- The cause set a number spells; bits 9 and up are ignored (R181). -/
def CauseSet.ofNat (v : Nat) : CauseSet :=
  { fault := v.testBit 0, cal := v.testBit 1, zone := v.testBit 2, suspect := v.testBit 3, holdover := v.testBit 4,
    step := v.testBit 5, notice := v.testBit 6, report := v.testBit 7, drift := v.testBit 8 }

/-- Whether a set marks any of the seven conditions (R171). -/
def CauseSet.marksCondition (c : CauseSet) : Bool :=
  c.fault || c.zone || c.suspect || c.holdover || c.notice || c.report || c.drift

/-- The rank of the highest-ranked cause of a set, 0 when it is empty (R174). -/
def CauseSet.top (c : CauseSet) : Nat :=
  if c.fault then 1 else if c.cal then 2 else if c.zone then 3 else if c.suspect then 4 else if c.holdover then 5
  else if c.step then 6 else if c.notice then 7 else if c.report then 8 else if c.drift then 9 else 0

/-- Whether some cause is present and unmasked. -/
def CauseSet.unmasked (present mask : CauseSet) : Bool :=
  (present.fault && !mask.fault) || (present.cal && !mask.cal) || (present.zone && !mask.zone)
    || (present.suspect && !mask.suspect) || (present.holdover && !mask.holdover) || (present.step && !mask.step)
    || (present.notice && !mask.notice) || (present.report && !mask.report) || (present.drift && !mask.drift)

/-- ATTN is asserted exactly while a cause is present and unmasked (R173): a level, computed from the flags and the mask, so
that it follows at the end of every arrival that changes either. -/
def State.attn (s : State) : Bool := s.attention.present.unmasked s.attention.mask

/-! ### Handing on causes -/

/-- The solver receives a stale mark (R123, R124). -/
def State.markStale (s : State) : State := { s with solver := { s.solver with stale := true } }

/-- The solver receives a stale mark if the arrival made one. -/
def State.markStaleIf (b : Bool) (s : State) : State :=
  { s with solver := { s.solver with stale := s.solver.stale || b } }

/-- The time base hands over a calibration outcome: CAL is latched and carries it (R170). -/
def State.latchCal (o : CalOutcome) (s : State) : State :=
  { s with attention := { s.attention with present := { s.attention.present with cal := true }, calOutcome := some o } }

/-- The site table hands over a re-seat, or none: STEP is latched, or left as it is (R170). -/
def State.latchStep (reseated : Bool) (s : State) : State :=
  { s with attention :=
    { s.attention with present := { s.attention.present with step := s.attention.present.step || reseated } } }

/-- The solver hands over the ZONE condition at a publication (R145). -/
def State.setZoneCause (b : Bool) (s : State) : State :=
  { s with attention := { s.attention with present := { s.attention.present with zone := b } } }

/-- The command port hands over the FAULT condition (R169). -/
def State.setFaultCause (b : Bool) (s : State) : State :=
  { s with attention := { s.attention with present := { s.attention.present with fault := b } } }

end Sys2Proof.Machine
end

