-- ==== Sys2Proof/Machine/Instants.lean ====
section
/-! DEFINITION. Instants, leads and intervals (00_scope.md, "Now, instants and leads"; R5, R6). -/

namespace Sys2Proof.Machine

/-- The lead of an instant: (X − now) mod 2^32 (R6). -/
def lead (now x : Instant) : Nat := (x - now).toNat

/-- X is later than Y: (X − Y) mod 2^32 lies in 1..2^31 − 1 (00_scope.md). -/
def isLater (x y : Instant) : Bool := decide (1 ≤ (x - y).toNat ∧ (x - y).toNat ≤ 2147483647)

/-- The instant `n` du after `x`, modulo 2^32: a deadline (R5). -/
def after (x : Instant) (n : Nat) : Instant := x + BitVec.ofNat 32 n

/-- The instant `n` du before `x`, modulo 2^32: a dispatch instant (R150). -/
def before (x : Instant) (n : Nat) : Instant := x - BitVec.ofNat 32 n

/-- The difference of two instants taken as an interval, modulo 2^32 (R6): a loop, a slip. -/
def interval (fromInstant toInstant : Instant) : Nat := (toInstant - fromInstant).toNat

end Sys2Proof.Machine
end

