-- ==== Sys2Proof/Machine/Wire.lean ====
section
/-! DEFINITION. The trunk line: the check (R75), the five frames (R186), the receive framer's hunting and its tests (R76,
R77), the bits of a frame and its length in oscillator ticks (R74). -/

namespace Sys2Proof.Machine

/-! ### The check -/

/-- One bit of the CRC-16 with generator x^16 + x^12 + x^5 + 1 (R75). -/
def crcBit (r : BitVec 16) : BitVec 16 :=
  if r.msb then (r <<< 1) ^^^ 0x1021 else r <<< 1

/-- One byte of the check, entered most significant bit first (R75). -/
def crcByte (r : BitVec 16) (b : Byte) : BitVec 16 :=
  Nat.iterate crcBit 8 (r ^^^ (b ++ (0 : Byte)))

/-- The check over some bytes: the register starts at FFFFh and the result is not inverted (R75). -/
def crc16 (bytes : List Byte) : BitVec 16 := bytes.foldl crcByte 0xFFFF

/-- The two check bytes, most significant first (R75). -/
def checkBytes (bytes : List Byte) : List Byte := bytesOf 2 (crc16 bytes).toNat

/-- A frame on the line: the delimiter C5h 3Ah, the bytes from the length byte on, and the check over these (R75). -/
def sealFrame (body : List Byte) : List Byte := [0xC5, 0x3A] ++ body ++ checkBytes body

/-! ### The frames of R186 -/

/-- The reply byte of a NOTICE_REPLY (R186). -/
def Decision.toByte : Decision → Byte
  | .taken => 0
  | .busy => 1
  | .unknown => 2

/-- A PROBE frame. -/
def probeFrame (address : Nat) (seq : Byte) : List Byte := sealFrame [3, 1, BitVec.ofNat 8 address, seq]

/-- An ECHO from its length byte to its check: what a receive framer collects after the delimiter. -/
def echoBytes (address seq : Byte) (turnaround : BitVec 16) : List Byte :=
  let body : List Byte := [5, 2, address, seq] ++ bytesOf 2 turnaround.toNat
  body ++ checkBytes body

/-- A NOTICE from its length byte to its check. -/
def noticeBytes (address kind : Byte) (detail : BitVec 16) (seq : Byte) : List Byte :=
  let body : List Byte := [6, 3, address, kind] ++ bytesOf 2 detail.toNat ++ [seq]
  body ++ checkBytes body

/-- A NOTICE_REPLY frame. -/
def replyFrame (r : NoticeReply) : List Byte := sealFrame [4, 4, r.address, r.seq, r.decision.toByte]

/-- One hold entry of a BATCH frame: address and sent hold (R186). -/
def holdBytes (e : HoldEntry) : List Byte :=
  BitVec.ofNat 8 e.address :: bytesOf 3 ((e.fixed.map FixedHold.hold).getD 0)

/-- A BATCH frame: tag, hold count, hold entries, payload length, payload. The length byte counts the payload length field
and not the payload (R75, R186). -/
def batchFrame (tag : Byte) (entries : List HoldEntry) (payload : List Byte) : List Byte :=
  sealFrame ([BitVec.ofNat 8 (4 + 4 * entries.length), 5, tag, BitVec.ofNat 8 entries.length]
    ++ entries.flatMap holdBytes ++ [BitVec.ofNat 8 payload.length] ++ payload)

/-! ### The receive framer -/

/-- Hunting over the bytes of the line, `afterC5` behind a C5h: whether the last byte completes the first delimiter. A C5h
followed by anything but a 3Ah is dropped, and a second C5h is itself taken as a possible first delimiter byte (R76). -/
def hunt (afterC5 : Bool) : List Byte → Bool
  | [] => false
  | b :: rest => if b = 0x3A ∧ afterC5 = true then decide (rest = []) else hunt (decide (b = 0xC5)) rest

/-- Why a received frame fails the framer's tests, apart from a stop bit and a gap (R77). -/
inductive DiscardCause where
  | badLength
  | badType
  | checkFailure
  deriving DecidableEq, Repr

/-- What the bytes collected after the delimiter amount to (R76, R77). -/
inductive Received where
  | echo (address seq : Byte) (turnaround : BitVec 16)
  | notice (address kind : Byte) (detail : BitVec 16) (seq : Byte)
  | bad (cause : DiscardCause)
  /-- The frame is not complete and shows no fault yet. -/
  | unfinished
  /-- The frame ended before the last of these bytes. -/
  | overrun
  deriving DecidableEq, Repr

/-- The framer's tests on the bytes after the length and type bytes of a frame whose pairing is good: the check once the
last of them has been received (R77). -/
def judgeFields (len kind : Byte) : List Byte → Received
  | fields =>
    if len = 5 then
      match fields with
      | [a, q, t1, t0, c1, c0] =>
        if c1 ++ c0 = crc16 [len, kind, a, q, t1, t0] then .echo a q (t1 ++ t0) else .bad .checkFailure
      | _ => if fields.length < 6 then .unfinished else .overrun
    else
      match fields with
      | [a, k, d1, d0, q, c1, c0] =>
        if c1 ++ c0 = crc16 [len, kind, a, k, d1, d0, q] then .notice a k (d1 ++ d0) q else .bad .checkFailure
      | _ => if fields.length < 7 then .unfinished else .overrun

/-- The framer's tests (R77, R186): a length byte of 5 or 6 alone; type 02h with length 5 and type 03h with length 6; the
check. A bad length or type is found at the byte that shows it. -/
def judge : List Byte → Received
  | [] => .unfinished
  | len :: rest =>
    if len ≠ 5 ∧ len ≠ 6 then (if rest = [] then .bad .badLength else .overrun)
    else
      match rest with
      | [] => .unfinished
      | kind :: fields =>
        if (len = 5 ∧ kind = 2) ∨ (len = 6 ∧ kind = 3) then judgeFields len kind fields
        else (if fields = [] then .bad .badType else .overrun)

/-- Whether the framer discards a frame at the last of these bytes (R77): a stop bit at space at that byte, or a test the
bytes fail there. -/
def discardsAt (bytes : List Byte) (stopBitAtSpace : Bool) : Bool :=
  if stopBitAtSpace then decide (bytes ≠ [] ∧ judge bytes.dropLast = .unfinished)
  else
    match judge bytes with
    | .bad _ => true
    | _ => false

/-! ### Bits on the line -/

/-- The ten bits of a byte on the line, mark as true: a start bit at space, eight data bits least significant first, a stop
bit at mark (R74). -/
def byteBits (b : Byte) : List Bool := [false] ++ (List.range 8).map (fun i => b.getLsbD i) ++ [true]

/-- The bits of a frame on the line: its bytes follow one another with no idle time (R74). -/
def frameBits (frame : List Byte) : List Bool := frame.flatMap byteBits

/-- A byte that the bits on a line gave the receive framer (R74): how many bits at mark the line rested before its start bit,
how many oscillator ticks ago that start bit came, its value, and the level of its stop bit, `none` while that is still to
come. -/
structure LineByte where
  rest : Nat
  start : Nat
  value : Byte
  stop : Option Bool
  deriving DecidableEq, Repr

/-- The bytes that the bits on RXD give, mark as true, each bit with how many ticks ago it came (R74): the line rests at mark;
a space after it is the start bit of a byte, whose eight data bits follow least significant first, and then its stop bit.
`rest` is how long the line has rested already. A byte whose data bits have not all come is none yet. -/
def lineBytes (rest : Nat) : List (Bool × Nat) → List LineByte
  | (true, _) :: line => lineBytes (rest + 1) line
  | (false, start) :: b0 :: b1 :: b2 :: b3 :: b4 :: b5 :: b6 :: b7 :: stop :: line =>
    { rest := rest, start := start, value := ofLineBits [b0.1, b1.1, b2.1, b3.1, b4.1, b5.1, b6.1, b7.1], stop := some stop.1 }
      :: lineBytes 0 line
  | [(false, start), b0, b1, b2, b3, b4, b5, b6, b7] =>
    [{ rest := rest, start := start, value := ofLineBits [b0.1, b1.1, b2.1, b3.1, b4.1, b5.1, b6.1, b7.1], stop := none }]
  | _ => []
where
  /-- The value of data bits that came least significant first. -/
  ofLineBits (bits : List Bool) : Byte := BitVec.ofNat 8 (bits.foldr (fun b n => b.toNat + 2 * n) 0)

/-- The byte came after a rest of no more than two byte times (R77). -/
def LineByte.follows (b : LineByte) : Bool := decide (b.rest ≤ 2 * 10)

/-- The byte is whole, its stop bit at mark, and no gap stands before it (R74, R77). -/
def LineByte.isWhole (b : LineByte) : Bool := decide (b.stop = some true) && b.follows

/-- The bytes of a frame in progress from the bits on RXD after the delimiter; `none` where the framer has met a stop bit at
space or a gap among them, or a stop bit is still to come (R74, R76, R77). -/
def frameBytes? (bits : List Bool) : Option (List Byte) :=
  let bytes := lineBytes 0 (bits.map fun b => (b, 0))
  if bytes.all LineByte.isWhole then some (bytes.map LineByte.value) else none

/-- The same where the stop bit of the last byte is the next bit to come. -/
def openFrameBytes? (bits : List Bool) : Option (List Byte) :=
  let bytes := lineBytes 0 (bits.map fun b => (b, 0))
  match bytes.getLast? with
  | some b =>
    if b.stop = none ∧ b.follows = true ∧ bytes.dropLast.all LineByte.isWhole = true then some (bytes.map LineByte.value)
    else none
  | none => none

/-- The bit rate in bit/s (R68). -/
def BitRate.bps : BitRate → Nat
  | .r9600 => 9600
  | .r19200 => 19200
  | .r38400 => 38400
  | .r56000 => 56000
  | .r64000 => 64000
  | .r128000 => 128000

/-- The granularity in du (R68). -/
def Granularity.du : Granularity → Nat
  | .du1 => 1
  | .du10 => 10
  | .du100 => 100

/-- The whole oscillator ticks in `n` bytes on the line: ten bit times a byte, 40,000,000 / rate ticks a bit on average,
spread evenly (R74). A frame never ends earlier than this (log 7). -/
def frameTicks (rate : BitRate) (n : Nat) : Nat := n * 10 * Config.oscillatorHz / rate.bps

/-- Whether at least the length of an `n`-byte frame has passed in oscillator ticks since the raw count `start`. -/
def lineTimePassed (rate : BitRate) (n : Nat) (start raw : BitVec 32) : Bool :=
  decide (frameTicks rate n ≤ (raw - start).toNat)

/-- Whether the whole length of an `n`-byte frame has passed since the raw count `start`: from then on its end is due (R74,
R79). -/
def lineTimeOver (rate : BitRate) (n : Nat) (start raw : BitVec 32) : Bool :=
  decide (n * 10 * Config.oscillatorHz ≤ (raw - start).toNat * rate.bps)

/-- The level a transmitter drives, mark as true, for a frame whose first start bit left at the raw count `start`: the bit
that is on the line after as many ticks, 40,000,000 / rate a bit on average and spread evenly, and mark after the last (R74;
log 7). -/
def lineLevel (rate : BitRate) (frame : List Byte) (start raw : BitVec 32) : Bool :=
  (frameBits frame).getD ((raw - start).toNat * rate.bps / Config.oscillatorHz) true

/-- Whether a rest at mark of this many ticks is more than two byte times (R77). -/
def isGap (rate : BitRate) (markTicks : Nat) : Bool :=
  decide (2 * 10 * Config.oscillatorHz < markTicks * rate.bps)

end Sys2Proof.Machine
end

