-- ==== Sys2Proof/Machine/Operands.lean ====
section
/-! DEFINITION. The operand forms: numbers of sites, zones and trunks, signed fields, the enumerated parameters, the clamping
of CONFIG.SET, and the range tests the owning rules make on them (R16, R26, R69, R108, R181, R182). -/

namespace Sys2Proof.Machine

/-- A site number 0..63; none when out of range (R16). -/
def siteNo? (b : Byte) : Option SiteNo := if h : b.toNat < 64 then some ⟨b.toNat, h⟩ else none

/-- A zone number 0..31; none when out of range (R108). -/
def zoneNo? (b : Byte) : Option ZoneNo := if h : b.toNat < 32 then some ⟨b.toNat, h⟩ else none

/-- A trunk number 0..7; none when out of range (R26, R69, R92). -/
def trunkNo? (b : Byte) : Option TrunkNo := if h : b.toNat < 8 then some ⟨b.toNat, h⟩ else none

/-- A trunk address 1..30; none when out of range (R26). -/
def address? (b : Byte) : Option Nat := if 1 ≤ b.toNat ∧ b.toNat ≤ 30 then some b.toNat else none

/-- A trim −100,000..+100,000, three bytes of two's complement; none when out of range (R26, R181). -/
def trim? (v : BitVec 24) : Option Int := if -100000 ≤ v.toInt ∧ v.toInt ≤ 100000 then some v.toInt else none

/-- A bit rate in bit/s; none when it is not one of the six (R68, R69). -/
def rate? (v : BitVec 24) : Option BitRate :=
  match v.toNat with
  | 9600 => some .r9600
  | 19200 => some .r19200
  | 38400 => some .r38400
  | 56000 => some .r56000
  | 64000 => some .r64000
  | 128000 => some .r128000
  | _ => none

/-- A granularity; none when it is not 1, 10 or 100 (R68, R69). -/
def gran? (b : Byte) : Option Granularity :=
  match b.toNat with
  | 1 => some .du1
  | 10 => some .du10
  | 100 => some .du100
  | _ => none

/-- A mode byte: 00h ALIGN, 01h BENCH; none when out of range (R188). -/
def mode? (b : Byte) : Option Mode :=
  match b.toNat with
  | 0 => some .align
  | 1 => some .bench
  | _ => none

/-- The kind byte of a NOTICE; none for any other value (R186). -/
def noticeKind? (b : Byte) : Option NoticeKind :=
  match b.toNat with
  | 1 => some .keyfail
  | 2 => some .paFault
  | 3 => some .siteRestart
  | 4 => some .serviceOff
  | 5 => some .serviceOn
  | _ => none

/-- The trunk and address of a command, when both are in range (R26, R28). -/
def place? (trunk address : Byte) : Option (TrunkNo × Nat) :=
  match trunkNo? trunk, address? address with
  | some t, some a => some (t, a)
  | _, _ => none

/-- The SITE.AMEND mask names A with its least significant bit (R181). -/
def namesAsym (mask : Byte) : Bool := mask.getLsbD 0

/-- The SITE.AMEND mask names the trim with its second bit (R181). -/
def namesTrim (mask : Byte) : Bool := mask.getLsbD 1

/-- The SITE.AMEND mask names trunk-and-address with its third bit (R181). -/
def namesPlace (mask : Byte) : Bool := mask.getLsbD 2

/-- A value clamped to the range of a parameter (R182, step 3). -/
def clamp (low high v : Nat) : Nat := max low (min high v)

end Sys2Proof.Machine
end

