-- ==== Sys2Proof/Machine/Ops.lean ====
section
/-! DEFINITION. The operations the commands share over the records: the site states and their entries (R17–R24), the drift
rule (R39), the marks and conditions a change of the site table hands on, the retire-completion test (R35, R36), the slot
and trunk updates, the command port's carrying out of a command (R177–R180), and the clearing of a reset (R187). -/

namespace Sys2Proof.Machine

/-! ### Free choices -/

/-- A free choice has been taken: the next one is another value (log 39). -/
def State.countChoice (s : State) : State := { s with choices := s.choices + 1 }

/-! ### The past of now -/

/-- What now was while the fraction and now together were `n` units of 2^−24 du less (R2). -/
def TimeBase.rewind (n : Nat) (t : TimeBase) : Instant :=
  BitVec.ofInt 32 ((((t.now.toNat * accumulatorOne + t.fraction : Nat) : Int) - n) / accumulatorOne)

/-- The value of now this many ticks ago (R4): every tick since F took its value has added F, and every one before that the F
before it. `none` beyond the latest reset. -/
def TimeBase.nowAt (ticks : Nat) (t : TimeBase) : Option Instant :=
  if ticks ≤ t.sinceF then some (t.rewind (ticks * t.f))
  else t.fBefore.map fun f => t.rewind (t.sinceF * t.f + (ticks - t.sinceF) * f)

/-! ### A site record -/

/-- The state of a phase (R16). -/
def SitePhase.state : SitePhase → SiteState
  | .vacant => .vacant
  | .probing _ => .probing
  | .aligned _ => .aligned
  | .holdover _ _ => .holdover
  | .suspect _ => .suspect
  | .suspended _ => .suspended
  | .retiring => .retiring

/-- The state of a site (R16). -/
def SiteRecord.state (r : SiteRecord) : SiteState := r.phase.state

/-- h: the misses since entering HOLDOVER, 0 outside it (R16). -/
def SiteRecord.h (r : SiteRecord) : Nat :=
  match r.phase with
  | .holdover _ h => h
  | _ => 0

/-- Site-held: yes only in SUSPENDED (R16). -/
def SiteRecord.siteHeld (r : SiteRecord) : Bool :=
  match r.phase with
  | .suspended held => held
  | _ => false

/-- The acquisition list, present in PROBING and SUSPECT (R16). -/
def SiteRecord.acquisition? (r : SiteRecord) : Option (List Nat) :=
  match r.phase with
  | .probing l => some l
  | .suspect l => some l
  | _ => none

/-- The jump list, present in ALIGNED and HOLDOVER (R16). -/
def SiteRecord.jump? (r : SiteRecord) : Option (List Nat) :=
  match r.phase with
  | .aligned l => some l
  | .holdover l _ => some l
  | _ => none

/-- Ever aligned: d holds an acquired value (R16). -/
def SiteRecord.everAligned (r : SiteRecord) : Bool := r.est.isSome

/-- d, for a site that has ever been aligned; 0 where it is absent. -/
def SiteRecord.d (r : SiteRecord) : Nat := (r.est.map Estimate.d).getD 0

/-- u: s in ALIGNED, s + G × h in HOLDOVER, absent elsewhere (chapter 2, section 2.1; R59). -/
def SiteRecord.u (growth : Nat) (r : SiteRecord) : Option Nat :=
  match r.phase with
  | .aligned _ => some r.s
  | .holdover _ h => some (r.s + growth * h)
  | _ => none

/-- The states in which a site on an enabled trunk is probed (R17). -/
def SitePhase.probed : SitePhase → Bool
  | .probing _ | .aligned _ | .holdover _ _ | .suspect _ => true
  | .vacant | .suspended _ | .retiring => false

/-- The states in which a site on an enabled trunk launches (R17). -/
def SitePhase.launches : SitePhase → Bool
  | .aligned _ | .holdover _ _ => true
  | .vacant | .probing _ | .suspect _ | .suspended _ | .retiring => false

/-- Whether the record stands at this trunk and address (R18, R87). -/
def SiteRecord.isAt (r : SiteRecord) (trunk : TrunkNo) (address : Nat) : Bool :=
  match r.link with
  | some l => decide (l.trunk = trunk ∧ l.address = address)
  | none => false

/-- Whether the record hangs on this trunk. -/
def SiteRecord.onTrunk (r : SiteRecord) (trunk : TrunkNo) : Bool :=
  match r.link with
  | some l => decide (l.trunk = trunk)
  | none => false

/-! ### Entering a state (R19–R22) -/

/-- Entering PROBING (R19). -/
def SiteRecord.enterProbing (r : SiteRecord) : SiteRecord := { r with phase := .probing [], m := 0 }

/-- Entering SUSPENDED (R20). -/
def SiteRecord.enterSuspended (siteHeld : Bool) (r : SiteRecord) : SiteRecord :=
  { r with phase := .suspended siteHeld, m := 0 }

/-- Entering RETIRING (R21). -/
def SiteRecord.enterRetiring (r : SiteRecord) : SiteRecord := { r with phase := .retiring, m := 0 }

/-- Entering SUSPECT: m is kept (R22). -/
def SiteRecord.enterSuspect (r : SiteRecord) : SiteRecord := { r with phase := .suspect [] }

/-- The SUSPECT test (R59): a site in ALIGNED or HOLDOVER whose u exceeds U enters SUSPECT. -/
def SiteRecord.suspectTest (growth ceiling : Nat) (r : SiteRecord) : SiteRecord :=
  match r.u growth with
  | some u => if ceiling < u then r.enterSuspect else r
  | none => r

/-- The drift rule (R39). -/
def driftRule (threshold : Nat) (est : Option Estimate) : Bool :=
  match est with
  | some e => decide (threshold ≠ 0 ∧ threshold < ((e.d : Int) - e.reported).natAbs)
  | none => false

/-- Drift pending re-evaluated (R39). -/
def SiteRecord.redrift (threshold : Nat) (r : SiteRecord) : SiteRecord := { r with drift := driftRule threshold r.est }

/-! ### The site table -/

/-- What the plan reads of a record (R23). -/
structure PlanView where
  state : SiteState
  place : Option (TrunkNo × Nat)
  trim : Option Int
  d : Option Nat
  s : Nat
  u : Option Nat
  deriving DecidableEq, Repr

/-- The plan's view of a record under a holdover growth G (R23). -/
def SiteRecord.planView (growth : Nat) (r : SiteRecord) : PlanView :=
  { state := r.state, place := r.link.map fun l => (l.trunk, l.address), trim := r.link.map Link.trim,
    d := r.est.map Estimate.d, s := r.s, u := r.u growth }

/-- Whether the change from one site table to another marks the plan stale (R23): some record's state, d, s, u, trim, trunk
or address differs. -/
def sitesChangePlan (growthBefore growthAfter : Nat) (old new : Table SiteRecord 64) : Bool :=
  (List.finRange 64).any fun i =>
    decide ((old.get i).planView growthBefore ≠ (new.get i).planView growthAfter)

/-- The record is in SUSPECT. -/
def SiteRecord.isSuspect (r : SiteRecord) : Bool := decide (r.state = .suspect)

/-- The record is in HOLDOVER. -/
def SiteRecord.isHoldover (r : SiteRecord) : Bool := decide (r.state = .holdover)

/-- The site table takes a new content as one arrival: the plan is marked stale as R23 says, and the SUSPECT, HOLDOVER and
DRIFT conditions are handed on (R24). `growthBefore` is the G before the arrival. -/
def State.installSites (growthBefore : Nat) (t : Table SiteRecord 64) (s : State) : State :=
  { s with
    sites := t
    solver :=
      { s.solver with stale := s.solver.stale || sitesChangePlan growthBefore s.config.growth s.sites t }
    attention :=
      { s.attention with
        present :=
          { s.attention.present with
            suspect := t.any SiteRecord.isSuspect
            holdover := t.any SiteRecord.isHoldover
            drift := t.any SiteRecord.drift } } }

/-- One record changes. -/
def State.putSite (i : SiteNo) (r : SiteRecord) (s : State) : State :=
  s.installSites s.config.growth (s.sites.set i r)

/-- Every record changes. -/
def State.mapSites (f : SiteNo → SiteRecord → SiteRecord) (s : State) : State :=
  s.installSites s.config.growth (s.sites.mapIdx f)

/-- The notice order list changes, and the NOTICE condition with it (R105). -/
def State.setNoticeOrder (l : List SiteNo) (s : State) : State :=
  { s with
    noticeOrder := l
    attention := { s.attention with present := { s.attention.present with notice := !l.isEmpty } } }

/-- Probe-eligible: in PROBING, ALIGNED, HOLDOVER or SUSPECT, on an enabled trunk (R17). -/
def State.probeEligible (s : State) (i : SiteNo) : Bool :=
  let r := s.sites.get i
  match r.link with
  | some l => r.phase.probed && (s.trunks.get l.trunk).enable
  | none => false

/-- Launch-eligible: in ALIGNED or HOLDOVER, on an enabled trunk (R17). -/
def State.launchEligible (s : State) (i : SiteNo) : Bool :=
  let r := s.sites.get i
  match r.link with
  | some l => r.phase.launches && (s.trunks.get l.trunk).enable
  | none => false

/-- Another site that is not VACANT holds this trunk and address (R18). -/
def State.placeHeld (s : State) (except : SiteNo) (trunk : TrunkNo) (address : Nat) : Bool :=
  (List.finRange 64).any fun j =>
    decide (j ≠ except) && decide ((s.sites.get j).state ≠ .vacant) && (s.sites.get j).isAt trunk address

/-! ### Trunks, zones and slots -/

/-- A trunk controller's record changes. -/
def State.putTrunk (t : TrunkNo) (tr : Trunk) (s : State) : State := { s with trunks := s.trunks.set t tr }

/-- Some slot is DONE (R165). -/
def isDone (b : Option Batch) : Bool :=
  match b with
  | some b =>
    match b.phase with
    | .done _ => true
    | .pending | .dispatching _ _ | .inFlight _ _ => false
  | none => false

/-- The batch slots change, and the REPORT condition with them (R165). -/
def State.installSlots (t : Table (Option Batch) 8) (s : State) : State :=
  { s with
    slots := t
    attention := { s.attention with present := { s.attention.present with report := t.any isDone } } }

/-- One batch slot changes. -/
def State.putSlot (i : SlotNo) (b : Option Batch) (s : State) : State := s.installSlots (s.slots.set i b)

/-- Some entry of these hold lists names the site. -/
def listsName (i : SiteNo) (lists : List HoldList) : Bool := lists.any fun l => l.entries.any fun e => decide (e.site = i)

/-- A batch in DISPATCHING or IN_FLIGHT names the site in a hold list (R35). -/
def batchNames (i : SiteNo) (b : Option Batch) : Bool :=
  match b with
  | some b =>
    match b.phase with
    | .dispatching x _ => listsName i x.holdLists
    | .inFlight x _ => listsName i x.holdLists
    | .pending | .done _ => false
  | none => false

/-- The latest completed plan gives the site EXCLUDED; the empty plan excludes every site (R130). -/
def planExcludes (latest : Option Plan) (i : SiteNo) : Bool :=
  match latest with
  | some p =>
    match p.sites.get i with
    | .excluded _ => true
    | .launch _ | .muted _ => false
  | none => true

/-- The retire-completion test on one site (R35). -/
def State.passesRetireTest (s : State) (i : SiteNo) : Bool :=
  decide ((s.sites.get i).state = .retiring) && planExcludes s.solver.latest i && !s.slots.any (batchNames i)

/-- The retire-completion test on every site, and the vacating of those that pass (R35, R36). -/
def State.retireTest (s : State) : State :=
  (s.mapSites fun i r => if s.passesRetireTest i then SiteRecord.vacant else r).setNoticeOrder
    (s.noticeOrder.filter fun i => !s.passesRetireTest i)

/-! ### The command port -/

/-- Which operating states take a command (R180). -/
inductive CommandClass where
  /-- INIT: taken in UNINIT, READY and FAULT. -/
  | initial
  /-- NOP and STATUS: taken in every state. -/
  | always
  /-- Every other command: taken in READY. -/
  | readyOnly
  deriving DecidableEq, Repr

/-- The operating-state test (R180): the code of the answer when the command is not taken. -/
def notTaken : CommandClass → OpState → Option ResultCode
  | .always, _ => none
  | .initial, .testing => some .busy
  | .initial, _ => none
  | .readyOnly, .ready => none
  | .readyOnly, _ => some .notReady

/-- The part is held in reset (R187). -/
def State.held (s : State) : Bool := s.resetUnit.por || s.resetUnit.pinLow

/-- The end of a command frame: SEL has risen, RDY is low, and the answer is stored in the response buffer (R177, R179).
RDY rises at a moment the next frame's row tells (log 6). -/
def State.respond (a : Answer) (s : State) : State :=
  { s with port :=
    { s.port with response := some a, frameOpen := false, rdy := false, selRise := some s.time.now } }

/-- A host command: at the end of the command frame in progress it is tested against the operating state and carried out by
its block, and its answer is stored (R177, R180). With no command frame in progress there is no such command (log 4). DESIGN
CHOICE (log 38): the command is carried out in the du and at the place in the order of arrivals at which SEL rises; R177 and
R14 say no more than that this is while RDY is low. -/
def State.command (k : CommandClass) (block : State → Answer × State) (s : State) : State :=
  if s.port.frameOpen then
    match notTaken k s.port.op with
    | some code => s.respond { code := code, data := [] }
    | none => (block s).2.respond (block s).1
  else s

/-- An answer without data. -/
def bare (code : ResultCode) : Answer := { code := code, data := [] }

/-- A refused command: an answer without data and no change (section 10.4). -/
def refuse (code : ResultCode) (s : State) : Answer × State := (bare code, s)

/-- An accepted command answered OK without data. -/
def accept (s : State) : Answer × State := (bare .ok, s)

/-! ### The clearing of a reset -/

/-- Every block but the command port takes its reset values (R187, R188); the CAL pin is an input and keeps its level. -/
def State.clearBlocks (s : State) : State :=
  { s with
    time := TimeBase.cleared s.time.calPin
    sites := Table.replicate 64 SiteRecord.vacant
    noticeOrder := []
    trunks := Table.replicate 8 Trunk.cleared
    zones := Table.replicate 32 ZoneRecord.cleared
    solver := Solver.cleared
    slots := Table.replicate 8 none
    attention := Attention.cleared
    config := Params.cleared }

/-- The part takes its reset values as power is applied or RESET goes low (R187). -/
def State.clearAll (s : State) : State := { s.clearBlocks with port := CommandPort.cleared }

end Sys2Proof.Machine
end

