-- ==== Sys2Proof/Machine/Solving.lean ====
section
/-! DEFINITION. The alignment solve (chapter 7): the snapshot, the seven stages, and the plan they publish. -/

namespace Sys2Proof.Machine

/-! ### The snapshot -/

/-- The snapshot's copy of a site (R126). -/
def State.snapSite (s : State) (i : SiteNo) : SnapSite :=
  let r := s.sites.get i
  match r.link, s.launchEligible i with
  | some l, true =>
    .eligible
      { trunk := l.trunk, address := l.address, d := r.d, trim := l.trim, u := (r.u s.config.growth).getD 0 }
  | _, _ => .ineligible (if r.state = .vacant then .vacant else .state)

/-- Whether F is calibrated, as the time base answers the solver (R7). -/
def CalState.answer : CalState → Bool
  | .uncalibrated => false
  | .measuring m => m.returnCalibrated
  | .calibrated => true

/-- The snapshot's copies of the defined zones, in ascending zone number (R118). -/
def State.snapZones (s : State) : List SnapZone :=
  (List.finRange 32).filterMap fun z =>
    (s.zones.get z).body.map fun b => { zone := z, revision := (s.zones.get z).revision, body := b }

/-- The snapshot that starts a solve (R126). -/
def State.snapshot (s : State) : Snapshot :=
  { sites := Table.tabulate s.snapSite
    enables := s.trunks.mapIdx fun _ t => t.enable
    grans := s.trunks.mapIdx fun _ t => t.gran
    zones := s.snapZones
    horizon := s.config.horizon
    calibrated := s.time.cal.answer }

/-! ### Holds and launch offsets -/

/-- The raw hold H − d + trim (R132). -/
def rawHold (horizon : Nat) (e : EligibleSite) : Int := (horizon : Int) - e.d + e.trim

/-- A value quantized to a granularity: the nearest multiple of g, ties rounded up; 0 below zero (R133, R158). -/
def quantize (g : Granularity) (v : Int) : Nat :=
  if 0 ≤ v then g.du * ((v.toNat + g.du / 2) / g.du) else 0

/-- The effective launch offset e = d + quantized hold (R134). -/
def launchOffset (horizon : Nat) (g : Granularity) (e : EligibleSite) : Nat := e.d + quantize g (rawHold horizon e)

/-! ### Zones -/

/-- A member's arrival a at the critical point with its uncertainty u (R135). -/
structure Arrival where
  a : Nat
  u : Nat
  deriving DecidableEq, Repr

/-- The largest a + u minus the smallest a − u (R135). -/
def spreadOf : List Arrival → Nat
  | [] => 0
  | x :: rest =>
    let latest : Int := rest.foldl (fun acc y => max acc ((y.a : Int) + y.u)) ((x.a : Int) + x.u)
    let earliest : Int := rest.foldl (fun acc y => min acc ((y.a : Int) - y.u)) ((x.a : Int) - x.u)
    (latest - earliest).toNat

/-- The verdict over some members' arrivals, and the spread when one is formed (R136, R138). -/
def judgeZone (tolerance : Nat) (arrivals : List Arrival) : Verdict × Option Nat :=
  if arrivals.length < 2 then (.indeterminate, none)
  else if spreadOf arrivals ≤ tolerance then (.satisfied, some (spreadOf arrivals))
  else (.violated, some (spreadOf arrivals))

/-- The arrivals of a zone's members that are eligible in the snapshot and satisfy `counts` (R135, R138). -/
def Snapshot.arrivals (n : Snapshot) (counts : SiteNo → Bool) (b : ZoneBody) : List Arrival :=
  b.members.filterMap fun m =>
    match n.sites.get m.1, counts m.1 with
    | .eligible e, true => some { a := launchOffset n.horizon (n.grans.get e.trunk) e + m.2, u := e.u }
    | _, _ => none

/-- The first pass: over the eligible members; every zone INDETERMINATE when the time base is uncalibrated (R136, R140). -/
def Snapshot.firstPass (n : Snapshot) (b : ZoneBody) : Verdict × Option Nat :=
  if n.calibrated then judgeZone b.tolerance (n.arrivals (fun _ => true) b) else (.indeterminate, none)

/-- A site is MUTED: eligible, and the yield member of a zone whose first-pass verdict is VIOLATED (R137). -/
def Snapshot.muted (n : Snapshot) (i : SiteNo) : Bool :=
  match n.sites.get i with
  | .eligible _ => n.zones.any fun z => decide (z.body.yieldMember = some i ∧ (n.firstPass z.body).1 = .violated)
  | .ineligible _ => false

/-- The second pass: over the members that are eligible and not MUTED (R138, R140). -/
def Snapshot.secondPass (n : Snapshot) (b : ZoneBody) : Verdict × Option Nat :=
  if n.calibrated then judgeZone b.tolerance (n.arrivals (fun i => !n.muted i) b) else (.indeterminate, none)

/-! ### The plan -/

/-- A site's disposition (R131–R133, R139). -/
def Snapshot.disposition (n : Snapshot) (i : SiteNo) : Disposition :=
  match n.sites.get i with
  | .ineligible reason => .excluded reason
  | .eligible e =>
    let raw := rawHold n.horizon e
    let p : PlannedSite := { trunk := e.trunk, address := e.address, rawHold := raw, short := decide (raw < 0) }
    if n.muted i then .muted p else .launch p

/-- A zone's entry (R141). -/
def Snapshot.zoneEntry (n : Snapshot) (z : SnapZone) : ZoneEntry :=
  { zone := z.zone, revision := z.revision, firstPass := (n.firstPass z.body).1, final := (n.secondPass z.body).1,
    spread := (n.secondPass z.body).2 }

/-- The epoch after an epoch: plus one, with 65,535 followed by 1 (R128). -/
def nextEpoch (epoch : Nat) : Nat := if 65535 ≤ epoch then 1 else epoch + 1

/-- The epoch of the latest completed plan; 0 for the empty plan (R128, R130). -/
def Solver.epoch (v : Solver) : Nat :=
  match v.latest with
  | some p => p.epoch
  | none => 0

/-- The plan a snapshot gives (R131–R141). -/
def Snapshot.plan (n : Snapshot) (epoch : Nat) : Plan :=
  { epoch := epoch
    provisional := !n.calibrated
    horizon := n.horizon
    grans := n.grans
    sites := Table.tabulate n.disposition
    zones := n.zones.map n.zoneEntry }

/-- Some zone entry of the plan has the final verdict VIOLATED (R145). -/
def Plan.violatesZone (p : Plan) : Bool := p.zones.any fun z => decide (z.final = .violated)

/-! ### Starting and completing -/

/-- The start of a solve (R125): the stale flag is cleared and the snapshot taken (R126). -/
def State.startSolve (s : State) : State :=
  { s with solver :=
    { s.solver with stale := false, running := some { snapshot := s.snapshot, start := s.time.now } } }

/-- A solve can start: the stale flag is yes and the solver IDLE (R125). -/
def Solver.mayStart (v : Solver) : Bool := v.stale && v.running.isNone

/-- A plan as it is published: a site that the snapshot held eligible and that has been vacated since is EXCLUDED, as every
VACANT site is in the latest plan (R36, R130). DEDUCED (log 35): the solve itself, and with it every zone entry, stands as the
snapshot gives it (R118, R126). -/
def Plan.excludeVacant (sites : Table SiteRecord 64) (p : Plan) : Plan :=
  { p with sites := p.sites.mapIdx fun i x =>
      match x with
      | .excluded _ => x
      | .launch _ | .muted _ => if (sites.get i).state = .vacant then .excluded .vacant else x }

/-- The publication of the plan of a snapshot (R128–R130): it takes the next epoch and replaces the latest, the solver is
IDLE, and the ZONE condition is handed on (R145). -/
def State.publish (n : Snapshot) (s : State) : State :=
  let p := (n.plan (nextEpoch s.solver.epoch)).excludeVacant s.sites
  ({ s with solver := { s.solver with running := none, latest := some p } } : State).setZoneCause p.violatesZone

/-- The completion of a solve (R128, R129): the publication, then the retire-completion test (R35). The start of the next
solve, where it follows the publication at once, is taken before the test or after it (R129, log 39): before it here, and
after it as the step SOLVE_START (log 8). -/
def State.completeSolve (startsFirst : Bool) (n : Snapshot) (s : State) : State :=
  let s' := s.publish n
  (if s'.solver.mayStart && startsFirst then s'.startSolve else s').retireTest

end Sys2Proof.Machine
end

