-- ==== Sys2Proof/Machine/Scheduling.lean ====
section
/-! DEFINITION. The batch scheduler's shared operations (chapter 8): the pending order, the dispatch, the fixing of holds at
a frame's start, the ends of frames, settling, and the freeing of a slot. -/

namespace Sys2Proof.Machine

/-- The batch of a slot is in PENDING. -/
def isPending (b : Option Batch) : Bool :=
  match b with
  | some b => decide (b.phase = .pending)
  | none => false

/-- The pending order's comparison (R148): by the lead of the dispatch instant, then by posting number. -/
def comesFirst (now : Instant) (x y : Batch) : Bool :=
  decide (lead now x.dispatch < lead now y.dispatch)
    || (decide (lead now x.dispatch = lead now y.dispatch) && decide (x.posting ≤ y.posting))

/-- The pending order's comparison on slots; only occupied ones are ever compared. -/
def State.slotComesFirst (s : State) (i j : SlotNo) : Bool :=
  match s.slots.get i, s.slots.get j with
  | some x, some y => comesFirst s.time.now x y
  | none, _ => true
  | some _, none => false

/-- The slots of the PENDING batches in the order they are dispatched (R148). -/
def State.pendingOrder (s : State) : List SlotNo :=
  ((List.finRange 8).filter fun i => isPending (s.slots.get i)).insertionSort fun i j => s.slotComesFirst i j = true

/-- A report with nothing sent, late or dropped (R155, R163). -/
def freshReport (result : BatchResult) (dropped : Nat) : Report :=
  { result := result, sent := 0, late := 0, dropped := dropped, lateList := [] }

/-- The hold entries of a trunk in a plan: its LAUNCH sites in ascending site number (R156). -/
def Plan.launchEntries (p : Plan) (t : TrunkNo) : List HoldEntry :=
  (List.finRange 64).filterMap fun i =>
    match p.sites.get i with
    | .launch q =>
      if q.trunk = t then some { site := i, address := q.address, rawHold := q.rawHold, fixed := none } else none
    | .muted _ | .excluded _ => none

/-- The hold lists of a dispatch: one for each trunk enabled now on which the plan launches a site (R156). -/
def State.holdListsFor (s : State) (p : Plan) : List HoldList :=
  (List.finRange 8).filterMap fun t =>
    if (s.trunks.get t).enable && !(p.launchEntries t).isEmpty then some { trunk := t, entries := p.launchEntries t }
    else none

/-- The LAUNCH sites on trunks disabled at the dispatch, counted as dropped (R156). -/
def State.droppedAtDispatch (s : State) (p : Plan) : Nat :=
  ((List.finRange 8).map fun t => if (s.trunks.get t).enable then 0 else (p.launchEntries t).length).sum

/-- A batch frame joins the transmit queue of each trunk of some hold lists, behind the batch frames waiting there (R79,
R156). -/
def State.queueFrames (i : SlotNo) (lists : List HoldList) (s : State) : State :=
  { s with
    trunks :=
      s.trunks.mapIdx fun t tr =>
        if (lists.any fun l => decide (l.trunk = t)) then { tr with batchQueue := tr.batchQueue ++ [i] } else tr }

/-- The result of a batch whose frames are handed on (R156). -/
def Batch.launchResult (b : Batch) : BatchResult := if b.slipped then .slipped else .launched

/-- The dispatch of the PENDING batch in a slot (R155, R156): with the empty plan it is DONE with NO_PLAN; with a plan that
gives it no frame it is DONE with NO_SITES; otherwise it is DISPATCHING and its frames are handed to the trunks. -/
def State.dispatch (i : SlotNo) (s : State) : State :=
  match s.slots.get i with
  | some b =>
    match s.solver.latest with
    | none =>
      s.putSlot i (some
        { b with phase := .done { epoch := 0, planHorizon := 0, holdLists := [], report := freshReport .noPlan 0 } })
    | some p =>
      let lists := s.holdListsFor p
      let dropped := s.droppedAtDispatch p
      if lists = [] then
        s.putSlot i (some
          { b with
            phase :=
              .done { epoch := p.epoch, planHorizon := p.horizon, holdLists := [], report := freshReport .noSites dropped } })
      else
        (s.putSlot i (some
          { b with
            phase :=
              .dispatching
                { epoch := p.epoch, planHorizon := p.horizon, holdLists := lists, report := freshReport b.launchResult dropped }
                lists.length })).queueFrames i lists
  | none => s

/-! ### Frames -/

/-- The horizon correction k: the batch horizon minus the plan's horizon (R157). -/
def horizonCorrection (b : Batch) (x : Dispatched) : Int := (interval b.dispatch b.actual : Int) - x.planHorizon

/-- The sent hold and lateness of a value v = raw hold + k − slip (R158). -/
def fixedHold (g : Granularity) (v : Int) : FixedHold := { hold := quantize g v, lateness := (-v).toNat }

/-- The entries of a hold list with every hold fixed (R158). -/
def fixEntries (g : Granularity) (k : Int) (slip : Nat) (entries : List HoldEntry) : List HoldEntry :=
  entries.map fun e => { e with fixed := some (fixedHold g (e.rawHold + k - slip)) }

/-- The hold entries of a batch for one trunk. -/
def Dispatched.entriesOf (x : Dispatched) (t : TrunkNo) : List HoldEntry :=
  match x.holdLists.find? fun l => decide (l.trunk = t) with
  | some l => l.entries
  | none => []

/-- The hold lists of a batch with those of one trunk replaced. -/
def Dispatched.withEntries (x : Dispatched) (t : TrunkNo) (entries : List HoldEntry) : Dispatched :=
  { x with holdLists := x.holdLists.map fun l => if l.trunk = t then { l with entries := entries } else l }

/-- The start of a batch's frame on a trunk at an instant (R158): the batch with the holds of that frame fixed, by the
trunk's present granularity, and the entries the frame carries. -/
def startFrame (t : TrunkNo) (g : Granularity) (instant : Instant) (b : Batch) : Batch × List HoldEntry :=
  match b.phase with
  | .dispatching x n =>
    let entries := fixEntries g (horizonCorrection b x) (interval b.dispatch instant) (x.entriesOf t)
    ({ b with phase := .dispatching (x.withEntries t entries) n }, entries)
  | .pending | .inFlight _ _ | .done _ => (b, [])

/-- The lateness of an entry; 0 while its hold is not fixed. -/
def HoldEntry.lateness (e : HoldEntry) : Nat := (e.fixed.map FixedHold.lateness).getD 0

/-- The late entries of a frame as the late list holds them: lateness limited to 16,777,215 (R159). -/
def lateOf (entries : List HoldEntry) : List (SiteNo × Nat) :=
  (entries.filter fun e => decide (0 < e.lateness)).map fun e => (e.site, min maxDelay e.lateness)

/-- Late entries merged into a late list: ascending site number, the 16 with the smallest site numbers (R159). -/
def mergeLate (old new : List (SiteNo × Nat)) : List (SiteNo × Nat) :=
  ((old ++ new).insertionSort fun a b => a.1 ≤ b.1).take lateListCapacity

/-- The end of a frame added to its batch's report (R159). -/
def reportFrame (sent : Bool) (entries : List HoldEntry) (r : Report) : Report :=
  if sent then
    { r with
      sent := r.sent + entries.length
      late := r.late + (lateOf entries).length
      lateList := mergeLate r.lateList (lateOf entries) }
  else { r with dropped := r.dropped + entries.length }

/-- A batch enters DONE from IN_FLIGHT: the report is complete, REPORT is re-evaluated and the retire-completion test is run
(R161). -/
def State.finish (i : SlotNo) (b : Batch) (x : Dispatched) (s : State) : State :=
  (s.putSlot i (some { b with phase := .done x })).retireTest

/-- A batch enters IN_FLIGHT: its settle deadline is set when it is later than now, and otherwise the batch goes on to DONE
in the same arrival (R160). -/
def State.enterInFlight (i : SlotNo) (b : Batch) (x : Dispatched) (s : State) : State :=
  let settle := after b.actual settleAllowance
  if isLater settle s.time.now then s.putSlot i (some { b with phase := .inFlight x settle })
  else s.finish i b x

/-- The end of a batch's frame on a trunk, sent or dropped, reported to the scheduler (R159, R160). -/
def State.frameEnded (t : TrunkNo) (sent : Bool) (i : SlotNo) (s : State) : State :=
  match s.slots.get i with
  | some b =>
    match b.phase with
    | .dispatching x n =>
      let x' : Dispatched := { x with report := reportFrame sent (x.entriesOf t) x.report }
      if n ≤ 1 then s.enterInFlight i b x' else s.putSlot i (some { b with phase := .dispatching x' (n - 1) })
    | .pending | .inFlight _ _ | .done _ => s
  | none => s

/-- A slot becomes FREE: every occupied slot with a higher posting number has its number lowered by one (R148). -/
def State.freeSlot (i : SlotNo) (s : State) : State :=
  match s.slots.get i with
  | some b =>
    s.installSlots (s.slots.mapIdx fun j o =>
      if j = i then none
      else o.map fun c => if b.posting < c.posting then { c with posting := c.posting - 1 } else c)
  | none => s

end Sys2Proof.Machine
end

