-- ==== Sys2Proof/Machine/Answers.lean ====
section
/-! DEFINITION. The bytes of answers: the response header (R185), the encodings of R181, and the data of every reading
command in the order of its owning rule's table. Where R181 does not settle a position or a width, logs 13 to 16 say what
the model reads. -/

namespace Sys2Proof.Machine

/-! ### Enumerated items -/

/-- A result code's byte (section 10.4). -/
def ResultCode.toByte : ResultCode → Byte
  | .ok => 0x00
  | .pending => 0x01
  | .clamped => 0x02
  | .slipped => 0x03
  | .badCommand => 0x10
  | .badLength => 0x11
  | .badValue => 0x12
  | .notReady => 0x13
  | .busy => 0x14
  | .noSuch => 0x15
  | .inUse => 0x16
  | .addrInUse => 0x17
  | .badState => 0x18
  | .siteHeld => 0x19
  | .trunkActive => 0x1A
  | .queueFull => 0x1B
  | .tagInUse => 0x1C
  | .tooFar => 0x1D
  | .spacing => 0x1E
  | .tooLate => 0x1F
  | .notFound => 0x20
  | .empty => 0x21

/-- The number of an operating state (R185). -/
def OpState.toNat : OpState → Nat
  | .uninit => 0
  | .testing => 1
  | .ready => 2
  | .fault => 3

/-- The number of a mode (R185). -/
def Mode.toNat : Mode → Nat
  | .align => 0
  | .bench => 1

/-- The number of a calibration state (R185). -/
def CalState.toNat : CalState → Nat
  | .uncalibrated => 0
  | .measuring _ => 1
  | .calibrated => 2

/-- The number of a store: site, zone, plan, batch (R184). -/
def Store.toNat : Store → Nat
  | .site => 0
  | .zone => 1
  | .plan => 2
  | .batch => 3

/-- The number of an outcome among ACCEPTED, CAL_TIMEOUT, CAL_RANGE (R184). -/
def CalOutcome.toNat : CalOutcome → Nat
  | .accepted => 0
  | .timeout => 1
  | .range => 2

/-- The number of a measurement phase: awaiting low, awaiting rise, pulse high (R14). -/
def MeasurePhase.toNat : MeasurePhase → Nat
  | .awaitingLow => 0
  | .awaitingRise => 1
  | .pulseHigh _ => 2

/-- The number of a site state: 0 for VACANT through 6 for RETIRING (R181). -/
def SiteState.toNat : SiteState → Nat
  | .vacant => 0
  | .probing => 1
  | .aligned => 2
  | .holdover => 3
  | .suspect => 4
  | .suspended => 5
  | .retiring => 6

/-- The number of a notice kind in an answer: its place in R104's list. -/
def NoticeKind.toNat : NoticeKind → Nat
  | .keyfail => 0
  | .paFault => 1
  | .siteRestart => 2
  | .serviceOff => 3
  | .serviceOn => 4

/-- The number of a slot timer's state: STOPPED, RUNNING, WAITING (R92). -/
def SlotTimer.toNat : SlotTimer → Nat
  | .stopped => 0
  | .running _ => 1
  | .waiting _ => 2

/-- The number of a verdict: SATISFIED, VIOLATED, INDETERMINATE (R120). -/
def Verdict.toNat : Verdict → Nat
  | .satisfied => 0
  | .violated => 1
  | .indeterminate => 2

/-- The number of a batch result: 0 for LAUNCHED through 3 for NO_SITES (R181). -/
def BatchResult.toNat : BatchResult → Nat
  | .launched => 0
  | .slipped => 1
  | .noPlan => 2
  | .noSites => 3

/-- The code of a granularity in PLAN.READ: 0 for 1 du, 1 for 10, 2 for 100 (R185). -/
def Granularity.code : Granularity → Nat
  | .du1 => 0
  | .du10 => 1
  | .du100 => 2

/-- The code of a reason: 0 VACANT, 1 STATE (R185). -/
def Reason.toNat : Reason → Nat
  | .vacant => 0
  | .state => 1

/-- One byte holding a number. -/
def byteOf (n : Nat) : Byte := BitVec.ofNat 8 n

/-! ### The response header (R185) -/

/-- The PROVISIONAL flag of the latest plan; no for the empty plan (R130). -/
def Solver.provisional (v : Solver) : Bool :=
  match v.latest with
  | some p => p.provisional
  | none => false

/-- The device-state byte (R185). -/
def State.deviceState (s : State) : Byte :=
  byteOf (64 * s.port.op.toNat + 32 * s.port.mode.toNat + 8 * s.time.cal.toNat + 4 * s.solver.stale.toNat
    + 2 * s.solver.running.isSome.toNat + s.solver.provisional.toNat)

/-- A response frame: the six-byte header, whose top cause, device state and plan epoch are those of this moment, then the
data (R174, R179, R185). -/
def State.responseFrame (s : State) (a : Answer) : List Byte :=
  [a.code.toByte, byteOf s.attention.present.top, s.deviceState] ++ bytesOf 2 s.solver.epoch ++ [byteOf a.data.length]
    ++ a.data

/-! ### The data of answers -/

/-- The calibration state a failed measurement returns to (R7). -/
def Measurement.returnState (m : Measurement) : CalState := if m.returnCalibrated then .calibrated else .uncalibrated

/-- The time base once a measurement has ended without an F (R7, R9, R10, R13). -/
def TimeBase.failed (m : Measurement) (outcome : CalOutcome) (c : Option Nat) (instant : Instant) (t : TimeBase) : TimeBase :=
  { t with cal := m.returnState, last := some { outcome := outcome, e := m.e, c := c, f := none, instant := instant } }

/-- The time base as a read finds it: a window deadline that now has reached has ended the measurement (R5, R9, R14). DESIGN
CHOICE (log 40): a read of that du is answered so before the row CAL_WINDOW_EXPIRY of that du, and changes nothing itself. -/
def TimeBase.asRead (t : TimeBase) : TimeBase :=
  match t.cal with
  | .measuring m => if isLater m.deadline t.now then t else t.failed m .timeout none m.deadline
  | .uncalibrated | .calibrated => t

/-- The items of TIME.READ's table (R14, R181). -/
def TimeBase.items (t : TimeBase) : List Byte :=
  let m : Option Measurement :=
    match t.cal with
    | .measuring m => some m
    | .uncalibrated | .calibrated => none
  let c : Option Nat := t.last.bind LastOutcome.c
  let f : Option Nat := t.last.bind LastOutcome.f
  [presenceByte [m.isSome, m.isSome, m.isSome, t.last.isSome, c.isSome, f.isSome, t.last.isSome]]
    ++ bytesOf 4 t.now.toNat ++ bytesOf 4 t.rawCount.toNat ++ bytesOf 3 t.f ++ [byteOf t.cal.toNat]
    ++ optionalItem 1 (fun m => [boolByte m.returnCalibrated]) m
    ++ optionalItem 4 (fun m => bytesOf 4 (lead t.now m.deadline)) m
    ++ optionalItem 1 (fun m => [byteOf m.phase.toNat]) m
    ++ [byteOf (match t.last with
        | some o => o.outcome.toNat + 1
        | none => 0)]
    ++ optionalItem 3 (fun o => bytesOf 3 o.e) t.last
    ++ optionalItem 4 (bytesOf 4) c
    ++ optionalItem 3 (bytesOf 3) f
    ++ optionalItem 4 (fun o => bytesOf 4 o.instant.toNat) t.last

/-- TIME.READ (R14). -/
def TimeBase.readData (t : TimeBase) : List Byte := t.asRead.items

/-- A list of samples in an answer; an absent list is sent as a count of 0 (R181; log 13). -/
def sampleList (l : Option (List Nat)) : List Byte := listItem (bytesOf 3) (l.getD [])

/-- SITE.READ (R37): the record as it stands, and whether the acknowledgement takes effect. -/
def SiteRecord.readData (growth : Nat) (i : SiteNo) (acknowledged : Bool) (r : SiteRecord) : List Byte :=
  let u := r.u growth
  [presenceByte [r.est.isSome, u.isSome, r.acquisition?.isSome, r.jump?.isSome, r.est.isSome, r.notice.isSome]]
    ++ [byteOf i.val, byteOf r.state.toNat]
    ++ (match r.link with
      | some l => [byteOf l.trunk.val, byteOf l.address] ++ signedBytesOf 2 l.asym ++ signedBytesOf 3 l.trim
      | none => zeroBytes 7)
    ++ [boolByte r.everAligned]
    ++ optionalItem 3 (fun e => bytesOf 3 e.d) r.est
    ++ bytesOf 2 r.s ++ [byteOf r.m] ++ bytesOf 2 r.h
    ++ optionalItem 3 (bytesOf 3) u
    ++ sampleList r.acquisition? ++ sampleList r.jump?
    ++ optionalItem 3 (fun e => bytesOf 3 e.reported) r.est
    ++ [boolByte r.drift, boolByte r.siteHeld, boolByte r.notice.isSome]
    ++ optionalItem 1 (fun n => [byteOf n.kind.toNat]) r.notice
    ++ [boolByte acknowledged]

/-- The tag of the batch in a slot. -/
def State.tagOf (s : State) (i : SlotNo) : Byte :=
  match s.slots.get i with
  | some b => b.tag
  | none => 0

/-- TRUNK.GET (R92). That the slot deadline's lead, which the table shows within the slot timer's item, is an optional item
with a presence bit of its own is the model's reading (log 13, PRESUMED). DESIGN CHOICE (log 40): a probe whose timeout
deadline now has reached is shown as closed, as its expiry closes it (R88), before the row of that expiry. -/
def State.trunkData (s : State) (t : TrunkNo) : List Byte :=
  let tr := s.trunks.get t
  let now := s.time.now
  let probe : Option Outstanding := tr.outstanding.filter fun o => isLater o.deadline now
  let deadline : Option Instant :=
    match tr.timer with
    | .running x => some x
    | .stopped | .waiting _ => none
  let request : Option SiteNo :=
    match tr.timer with
    | .waiting i => some i
    | .stopped | .running _ => none
  [presenceByte [deadline.isSome, probe.isSome, request.isSome]]
    ++ [boolByte tr.enable] ++ bytesOf 3 tr.rate.bps ++ [byteOf tr.gran.du] ++ bytesOf 3 tr.benchDelay
    ++ [byteOf tr.timer.toNat]
    ++ optionalItem 4 (fun x => bytesOf 4 (lead now x)) deadline
    ++ [siteOrNone tr.lastProbed, tr.nextSeq]
    ++ optionalItem 11 (fun o => [byteOf o.site.val, byteOf o.address, o.seq] ++ bytesOf 4 o.instant.toNat
      ++ bytesOf 4 (lead now o.deadline)) probe
    ++ (match tr.tx with
      | none => [0, 0]
      | some x =>
        match x.item with
        | .probe i => [1, byteOf i.val]
        | .batch k => [2, s.tagOf k]
        | .reply a => [3, a])
    ++ listItem (fun k => [s.tagOf k]) tr.batchQueue
    ++ [byteOf tr.replyQueue.length]
    ++ optionalItem 1 (fun i => [byteOf i.val]) request
    ++ bytesOf 2 tr.discards ++ bytesOf 2 tr.strays

/-- The latest plan's entry for a zone number (R121). -/
def Solver.zoneEntry (v : Solver) (z : ZoneNo) : Option ZoneEntry :=
  match v.latest with
  | some p => p.zones.find? fun e => decide (e.zone = z)
  | none => none

/-- ZONE.READ of a defined zone (R120, R121). -/
def State.zoneData (s : State) (z : ZoneNo) (b : ZoneBody) : List Byte :=
  let revision := (s.zones.get z).revision
  let entry := s.solver.zoneEntry z
  let spread : Option Nat := entry.bind ZoneEntry.spread
  let current :=
    match entry with
    | some e => decide (e.revision = revision)
    | none => false
  [presenceByte [entry.isSome, entry.isSome, s.solver.latest.isSome, entry.isSome, entry.isSome, spread.isSome]]
    ++ [byteOf z.val] ++ bytesOf 2 revision.toNat ++ bytesOf 2 b.tolerance
    ++ listItem (fun m => [byteOf m.1.val] ++ bytesOf 2 m.2 ++ [byteOf (s.sites.get m.1).state.toNat]) b.members
    ++ [siteOrNone b.yieldMember] ++ bytesOf 2 s.solver.epoch
    ++ optionalItem 2 (fun e => bytesOf 2 e.revision.toNat) entry
    ++ [boolByte current]
    ++ optionalItem 1 (fun p => [boolByte p.provisional]) s.solver.latest
    ++ optionalItem 1 (fun e => [byteOf e.firstPass.toNat]) entry
    ++ optionalItem 1 (fun e => [byteOf e.final.toNat]) entry
    ++ optionalItem 4 (bytesOf 4) spread

/-- A PLAN.READ entry: five bytes (R185). -/
def planEntryData : Disposition → List Byte
  | .launch p => byteOf (8 * p.short.toNat + p.trunk.val) :: signedBytesOf 4 p.rawHold
  | .muted p => byteOf (64 + 8 * p.short.toNat + p.trunk.val) :: signedBytesOf 4 p.rawHold
  | .excluded reason => byteOf (128 + 16 * reason.toNat) :: zeroBytes 4

/-- The site is LAUNCH. -/
def Disposition.isLaunch : Disposition → Bool
  | .launch _ => true
  | .muted _ | .excluded _ => false

/-- The site is MUTED. -/
def Disposition.isMuted : Disposition → Bool
  | .muted _ => true
  | .launch _ | .excluded _ => false

/-- The two granularity bytes of PLAN.READ: two bits a trunk, trunk 0 lowest (R185). -/
def granBits (g : Table Granularity 8) : Nat :=
  ((List.finRange 8).map fun t => (g.get t).code * 4 ^ t.val).sum

/-- The disposition of a site in the latest plan; the empty plan excludes every site as VACANT (R130, R143). -/
def Solver.disposition (v : Solver) (i : SiteNo) : Disposition :=
  match v.latest with
  | some p => p.sites.get i
  | none => .excluded .vacant

/-- The entries of a PLAN.READ: the sites from the first on, as many as asked for and as there are (R143). -/
def Solver.entriesFrom (v : Solver) (first : SiteNo) (count : Nat) : List Disposition :=
  (((List.finRange 64).drop first.val).take count).map v.disposition

/-- PLAN.READ (R143, R185). -/
def State.planData (s : State) (first : SiteNo) (count : Nat) : List Byte :=
  let v := s.solver
  let entries := v.entriesFrom first count
  bytesOf 2 v.epoch
    ++ [byteOf (8 * v.latest.isSome.toNat + 4 * v.provisional.toNat + 2 * v.stale.toNat + v.running.isSome.toNat)]
    ++ optionalItem 3 (fun p => bytesOf 3 p.horizon) v.latest
    ++ optionalItem 2 (fun p => bytesOf 2 (granBits p.grans)) v.latest
    ++ optionalItem 4 (fun p =>
        [byteOf (p.sites.count Disposition.isLaunch), byteOf (p.sites.count Disposition.isMuted),
          byteOf p.zones.length, byteOf (p.zones.countP fun z => decide (z.final = .violated))]) v.latest
    ++ [byteOf first.val, byteOf entries.length] ++ entries.flatMap planEntryData

/-- BATCH.REPORT (R163). -/
def Batch.reportData (b : Batch) (x : Dispatched) : List Byte :=
  [b.tag, byteOf x.report.result.toNat] ++ bytesOf 4 b.requested.toNat ++ bytesOf 4 b.actual.toNat
    ++ bytesOf 4 b.dispatch.toNat ++ bytesOf 2 x.epoch
    ++ [byteOf x.report.sent, byteOf x.report.late, byteOf x.report.dropped]
    ++ listItem (fun e => byteOf e.1.val :: bytesOf 3 e.2) x.report.lateList

/-- NOTICE.TAKE (R104). -/
def noticeData (i : SiteNo) (n : Notice) (remaining : Nat) : List Byte :=
  [byteOf i.val, byteOf n.kind.toNat] ++ bytesOf 2 n.detail.toNat ++ bytesOf 4 n.instant.toNat ++ [byteOf remaining]

/-- CONFIG.GET: the nine parameters in code order, 23 bytes (R183). -/
def State.configData (s : State) : List Byte :=
  bytesOf 3 s.config.horizon ++ bytesOf 3 s.config.jumpLimit ++ bytesOf 3 s.config.probePeriod
    ++ bytesOf 3 s.config.probeTimeout ++ bytesOf 1 s.config.growth ++ bytesOf 2 s.config.ceiling
    ++ bytesOf 3 s.config.spacing ++ bytesOf 3 s.config.driftThreshold ++ bytesOf 2 s.attention.mask.toNat

/-- How many sites are in a state. -/
def State.sitesIn (s : State) (x : SiteState) : Nat := s.sites.count fun r => decide (r.state = x)

/-- The number of a slot's state: FREE, PENDING, DISPATCHING, IN_FLIGHT, DONE (R184). -/
def slotStateNumber (b : Option Batch) : Nat :=
  match b with
  | none => 0
  | some b =>
    match b.phase with
    | .pending => 1
    | .dispatching _ _ => 2
    | .inFlight _ _ => 3
    | .done _ => 4

/-- The trunks enabled, bit t set when trunk t is (R184). -/
def State.enabledBits (s : State) : Nat :=
  ((List.finRange 8).map fun t => (s.trunks.get t).enable.toNat * 2 ^ t.val).sum

/-- STATUS (R184). -/
def State.statusData (s : State) : List Byte :=
  [presenceByte [s.port.failing.isSome, s.attention.calOutcome.isSome]]
    ++ [byteOf s.port.op.toNat, byteOf s.port.mode.toNat]
    ++ optionalItem 1 (fun x => [byteOf x.toNat]) s.port.failing
    ++ bytesOf 2 s.attention.present.toNat ++ bytesOf 2 s.attention.mask.toNat
    ++ optionalItem 1 (fun o => [byteOf o.toNat]) s.attention.calOutcome
    ++ [byteOf s.time.cal.toNat, boolByte s.solver.running.isSome, boolByte s.solver.stale]
    ++ [SiteState.vacant, .probing, .aligned, .holdover, .suspect, .suspended, .retiring].map (fun x => byteOf (s.sitesIn x))
    ++ [byteOf (s.zones.count fun z => z.body.isSome)]
    ++ [0, 1, 2, 3, 4].map (fun k => byteOf (s.slots.count fun b => decide (slotStateNumber b = k)))
    ++ [byteOf s.noticeOrder.length, byteOf s.enabledBits]

/-- ACK: the latched causes still present, and the CAL outcome when CAL is among them (R171; log 16). -/
def Attention.ackData (a : Attention) : List Byte :=
  bytesOf 2 (CauseSet.toNat { CauseSet.none with cal := a.present.cal, step := a.present.step })
    ++ (if a.present.cal then (match a.calOutcome with
        | some o => [byteOf o.toNat]
        | none => []) else [])

end Sys2Proof.Machine
end

