-- ==== Sys2Proof/Machine/ResetCommands.lean ====
section
/-! DEFINITION. Reset and initialization (chapter 11): POWER_ON, RESET, their releases, INIT and the end of the self-test. -/

namespace Sys2Proof.Machine

/-- The answers of exec: every command of the part answers a next state. -/
abbrev Result := Host.Outcome State Fault Refusal

/-- POWER_ON (R187): power-on reset takes effect and every block takes its reset values. -/
def execPowerOn (s : State) : Result :=
  .next { s.clearAll with resetUnit := { s.resetUnit with por := true, porTicks := 0 } }

/-- RESET (R187): the pin goes low, every block takes its reset values, the port is in UNINIT with RDY low. -/
def execReset (s : State) : Result :=
  .next { s.clearAll with resetUnit := { s.resetUnit with pinLow := true } }

/-- The release of the part once no source holds it in reset (R187): RDY rises. Now and the raw count, held at 0, count from
the next tick. -/
def State.releaseIfFree (s : State) : State :=
  if s.held then s else { s with port := { s.port with rdy := true } }

/-- RESET_RELEASE (R187): the rising edge of RESET. -/
def execResetRelease (s : State) : Result :=
  .next (if s.resetUnit.pinLow then State.releaseIfFree { s with resetUnit := { s.resetUnit with pinLow := false } } else s)

/-- POWER_ON_RESET_RELEASE (R187): the supply is within its limits and the oscillator has run 40,000 ticks. -/
def execPowerOnResetRelease (s : State) : Result :=
  .next (if s.resetUnit.por ∧ powerOnTicks ≤ s.resetUnit.porTicks then
      State.releaseIfFree { s with resetUnit := { s.resetUnit with por := false } }
    else s)

/-- INIT (R188): a mode out of range is refused; otherwise every block takes its reset values, the mode becomes the one
carried, and the operating state TESTING or READY. -/
def initBlock (mode selfTest : Byte) (s : State) : Answer × State :=
  match mode? mode with
  | none => refuse .badValue s
  | some m =>
    let c := s.clearBlocks
    accept { c with port :=
      { c.port with op := if isYes selfTest then .testing else .ready, mode := m, failing := none } }

/-- INIT (R180, R188). -/
def execInit (mode selfTest : Byte) (s : State) : Result := .next (s.command .initial (initBlock mode selfTest))

/-- The first store in test order whose read-back differed (R189). -/
def failingStore (siteOk zoneOk planOk batchOk : Bool) : Option Store :=
  if !siteOk then some .site else if !zoneOk then some .zone else if !planOk then some .plan
  else if !batchOk then some .batch else none

/-- The tested stores return to their reset values (R189). -/
def State.clearStores (s : State) : State :=
  { s with
    sites := Table.replicate 64 SiteRecord.vacant
    noticeOrder := []
    zones := Table.replicate 32 ZoneRecord.cleared
    solver := Solver.cleared
    slots := Table.replicate 8 none }

/-- SELF_TEST_END (R189): in TESTING, the stores return to reset values and the part enters READY, or FAULT with the failing
store recorded and the FAULT condition handed on (R169). -/
def execSelfTestEnd (siteOk zoneOk planOk batchOk : Bool) (s : State) : Result :=
  .next (if s.port.op = .testing then
      match failingStore siteOk zoneOk planOk batchOk with
      | none => { s.clearStores with port := { s.port with op := .ready } }
      | some x =>
        ({ s.clearStores with port := { s.port with op := .fault, failing := some x } } : State).setFaultCause true
    else s)

end Sys2Proof.Machine
end

