-- ==== Sys2Proof/Machine/BatchCommands.lean ====
section
/-! DEFINITION. The BATCH commands and the two deadlines of the batch scheduler (chapter 8). -/

namespace Sys2Proof.Machine

/-! ### Posting -/

/-- The lowest FREE slot: the spec leaves which FREE slot a post takes (log 19). -/
def State.freeSlot? (s : State) : Option SlotNo := (List.finRange 8).find? fun i => (s.slots.get i).isNone

/-- The occupied slot that holds a tag. -/
def State.slotOfTag? (s : State) (tag : Byte) : Option SlotNo :=
  (List.finRange 8).find? fun i =>
    match s.slots.get i with
    | some b => decide (b.tag = tag)
    | none => false

/-- The lead of a requested launch is too far (R149, test 4). -/
def tooFar (now requested : Instant) : Bool :=
  decide (1073741824 ≤ lead now requested ∧ lead now requested ≤ 2147483647)

/-- The requested launch has passed or is nearer than H: the batch is slipped (R150). -/
def slipsAtPost (now : Instant) (horizon : Nat) (requested : Instant) : Bool :=
  decide (2147483648 ≤ lead now requested ∨ lead now requested < horizon)

/-- The actual launch of a post (R150). -/
def actualLaunch (now : Instant) (horizon : Nat) (requested : Instant) : Instant :=
  if slipsAtPost now horizon requested then after now horizon else requested

/-- Two instants lie within W of one another (R150). -/
def within (spacing : Nat) (x y : Instant) : Bool := decide (min (x - y).toNat (y - x).toNat < spacing)

/-- The batch of a slot is in PENDING, DISPATCHING or IN_FLIGHT. -/
def isActive (b : Option Batch) : Bool :=
  match b with
  | some b =>
    match b.phase with
    | .pending | .dispatching _ _ | .inFlight _ _ => true
    | .done _ => false
  | none => false

/-- The batch of a slot refuses a post at this actual launch (R150): it is active and within W. -/
def spacesOut (spacing : Nat) (actual : Instant) (o : Option Batch) : Bool :=
  isActive o &&
    (match o with
    | some b => within spacing actual b.actual
    | none => false)

/-- The batch an accepted post puts into its slot (R150), with the number of occupied slots as its posting number (R148). -/
def State.postedBatch (s : State) (tag : Byte) (requested : Instant) (payload : List Byte) : Batch :=
  let actual := actualLaunch s.time.now s.config.horizon requested
  { tag := tag, posting := s.slots.count Option.isSome, payload := payload, requested := requested, actual := actual
    dispatch := before actual s.config.horizon, slipped := slipsAtPost s.time.now s.config.horizon requested
    phase := .pending }

/-- The answer to an accepted post (R150). -/
def Batch.postAnswer (b : Batch) : Answer :=
  if b.slipped then { code := .slipped, data := bytesOf 4 b.actual.toNat } else bare .ok

/-- An accepted post (R150): the batch enters PENDING, and is dispatched in the same arrival when its dispatch instant is
now. DESIGN CHOICE (log 23): so it is also while an earlier PENDING batch of the same dispatch instant still awaits its row
DISPATCH_DEADLINE_EXPIRY. R150's "at once in the same arrival" is followed there before R148's order by posting number. -/
def State.acceptPost (i : SlotNo) (b : Batch) (s : State) : State :=
  let s' := s.putSlot i (some b)
  if b.dispatch = s.time.now then s'.dispatch i else s'

/-- BATCH.POST at the scheduler (R149, R150). -/
def batchPostBlock (tag : Byte) (requested : Instant) (payload : List Byte) (s : State) : Answer × State :=
  match s.freeSlot? with
  | none => refuse .queueFull s
  | some i =>
    if (s.slotOfTag? tag).isSome then refuse .tagInUse s
    else if payload.length = 0 ∨ 192 < payload.length then refuse .badLength s
    else if tooFar s.time.now requested then refuse .tooFar s
    else
      let b := s.postedBatch tag requested payload
      if s.slots.any (spacesOut s.config.spacing b.actual) then refuse .spacing s
      else (b.postAnswer, s.acceptPost i b)

/-- BATCH.POST (R149, R150, R180). -/
def execBatchPost (tag : Byte) (requested : Instant) (payload : List Byte) (s : State) : Result :=
  .next (s.command .readyOnly (batchPostBlock tag requested payload))

/-! ### Withdrawing -/

/-- BATCH.WITHDRAW at the scheduler (R154). -/
def batchWithdrawBlock (tag : Byte) (s : State) : Answer × State :=
  match s.slotOfTag? tag with
  | none => refuse .notFound s
  | some i => if isPending (s.slots.get i) then accept (s.freeSlot i) else refuse .tooLate s

/-- BATCH.WITHDRAW (R154, R180). -/
def execBatchWithdraw (tag : Byte) (s : State) : Result := .next (s.command .readyOnly (batchWithdrawBlock tag))

/-! ### Reporting -/

/-- Of two DONE batches, the one BATCH.REPORT chooses (R164): the larger (now − actual launch) mod 2^32, ties to the lower
posting number. -/
def reportsBefore (now : Instant) (x y : Batch) : Bool :=
  decide (interval y.actual now < interval x.actual now)
    || (decide (interval x.actual now = interval y.actual now) && decide (x.posting ≤ y.posting))

/-- One step of the choice of R164 over the slots: the better of the best so far and a slot. -/
def State.betterReport (s : State) (best : Option SlotNo) (i : SlotNo) : Option SlotNo :=
  if isDone (s.slots.get i) then
    match best with
    | none => some i
    | some j =>
      match s.slots.get j, s.slots.get i with
      | some x, some y => if reportsBefore s.time.now x y then some j else some i
      | _, _ => some i
  else best

/-- The slot whose report BATCH.REPORT returns (R164). -/
def State.reportSlot? (s : State) : Option SlotNo := (List.finRange 8).foldl s.betterReport none

/-- BATCH.REPORT at the scheduler (R164): the report is captured, then the slot is freed. -/
def batchReportBlock (s : State) : Answer × State :=
  match s.reportSlot? with
  | none => refuse .empty s
  | some i =>
    match s.slots.get i with
    | some b =>
      match b.phase with
      | .done x => ({ code := .ok, data := b.reportData x }, s.freeSlot i)
      | .pending | .dispatching _ _ | .inFlight _ _ => refuse .empty s
    | none => refuse .empty s

/-- BATCH.REPORT (R164, R180). -/
def execBatchReport (s : State) : Result := .next (s.command .readyOnly batchReportBlock)

/-! ### Deadlines -/

/-- DISPATCH_DEADLINE_EXPIRY (R148, R151): when the first batch of the pending order has reached its dispatch instant it is
dispatched (R155, R156). Several of one instant are dispatched by as many such steps (log 23). -/
def execDispatchDeadlineExpiry (s : State) : Result :=
  .next (match s.pendingOrder with
    | [] => s
    | i :: _ =>
      match s.slots.get i with
      | some b => if b.dispatch = s.time.now then s.dispatch i else s
      | none => s)

/-- SETTLE_DEADLINE_EXPIRY (R161): when now is the settle deadline of the IN_FLIGHT batch in the slot it enters DONE. -/
def execSettleDeadlineExpiry (slot : SlotNo) (s : State) : Result :=
  .next (match s.slots.get slot with
    | some b =>
      match b.phase with
      | .inFlight x settle => if settle = s.time.now then s.finish slot b x else s
      | .pending | .dispatching _ _ | .done _ => s
    | none => s)

end Sys2Proof.Machine
end

