-- ==== Sys2Proof/Machine/ConfigCommands.lean ====
section
/-! DEFINITION. CONFIG.SET of each parameter and CONFIG.GET (R182, R183), with what each change does to the blocks that use
the parameter (R39, R61–R63, R90, R152, R172). -/

namespace Sys2Proof.Machine

/-- The answer to an accepted CONFIG.SET: CLAMPED when clamping changed the value and OK otherwise, with the value stored in
four bytes (R182, step 5). -/
def configAnswer (carried stored : Nat) : Answer :=
  { code := if stored = carried then .ok else .clamped, data := bytesOf 4 stored }

/-- A parameter that is only stored, and read by its blocks when they next use it (R182). -/
def State.setParams (p : Params) (s : State) : State := { s with config := p }

/-! ### The horizon -/

/-- A PENDING batch under a new horizon (R152): its dispatch instant is recomputed; when that is not later than now the batch
is slipped to launch at now + H and dispatch now. -/
def rehorizon (now : Instant) (horizon : Nat) (b : Batch) : Batch :=
  let d := before b.actual horizon
  if isLater d now then { b with dispatch := d }
  else { b with actual := after now horizon, dispatch := now, slipped := true }

/-- A PENDING batch that a new horizon slips (R152). -/
def slipsUnder (now : Instant) (horizon : Nat) (b : Option Batch) : Bool :=
  match b with
  | some b => decide (b.phase = .pending) && !isLater (before b.actual horizon) now
  | none => false

/-- The change of H at the scheduler (R152): every PENDING batch is recomputed, then the batches slipped are dispatched in
the pending order, in the same arrival. -/
def State.applyHorizon (horizon : Nat) (s : State) : State :=
  let now := s.time.now
  let slots := s.slots.mapIdx fun _ o => o.map fun b => if b.phase = .pending then rehorizon now horizon b else b
  let s' := s.installSlots slots
  (s'.pendingOrder.filter fun i => slipsUnder now horizon (s.slots.get i)).foldl (fun t i => t.dispatch i) s'

/-- CONFIG.SET of H at the configuration store (R124, R152, R182). -/
def horizonBlock (value : BitVec 32) (s : State) : Answer × State :=
  let h := clamp 10000 16000000 value.toNat
  (configAnswer value.toNat h,
    if h = s.config.horizon then s
    else ((s.setParams { s.config with horizon := h }).markStale).applyHorizon h)

/-- CONFIG.SET of H (R152). -/
def execConfigSetHorizon (value : BitVec 32) (s : State) : Result := .next (s.command .readyOnly (horizonBlock value))

/-! ### The tracker's parameters -/

/-- CONFIG.SET of J (R61, R182): stored, and read at each site's next sample. -/
def jumpLimitBlock (value : BitVec 32) (s : State) : Answer × State :=
  let j := clamp 10 100000 value.toNat
  (configAnswer value.toNat j, s.setParams { s.config with jumpLimit := j })

/-- CONFIG.SET of J (R61). -/
def execConfigSetJumpLimit (value : BitVec 32) (s : State) : Result := .next (s.command .readyOnly (jumpLimitBlock value))

/-- CONFIG.SET of P (R90, R182): clamped, then refused unless above Q. -/
def probePeriodBlock (value : BitVec 32) (s : State) : Answer × State :=
  let p := clamp 10000 10000000 value.toNat
  if s.config.probeTimeout < p then (configAnswer value.toNat p, s.setParams { s.config with probePeriod := p })
  else refuse .badValue s

/-- CONFIG.SET of P (R90). -/
def execConfigSetProbePeriod (value : BitVec 32) (s : State) : Result :=
  .next (s.command .readyOnly (probePeriodBlock value))

/-- CONFIG.SET of Q (R90, R182): clamped, then refused unless below P. -/
def probeTimeoutBlock (value : BitVec 32) (s : State) : Answer × State :=
  let q := clamp 1000 9999999 value.toNat
  if q < s.config.probePeriod then (configAnswer value.toNat q, s.setParams { s.config with probeTimeout := q })
  else refuse .badValue s

/-- CONFIG.SET of Q (R90). -/
def execConfigSetProbeTimeout (value : BitVec 32) (s : State) : Result :=
  .next (s.command .readyOnly (probeTimeoutBlock value))

/-- CONFIG.SET of G (R62, R182): a changed value is applied at once; u is recomputed and the SUSPECT test made at every
site. -/
def growthBlock (value : BitVec 32) (s : State) : Answer × State :=
  let g := clamp 0 255 value.toNat
  (configAnswer value.toNat g,
    if g = s.config.growth then s
    else
      (s.setParams { s.config with growth := g }).installSites s.config.growth
        (s.sites.mapIdx fun _ r => r.suspectTest g s.config.ceiling))

/-- CONFIG.SET of G (R62). -/
def execConfigSetHoldoverGrowth (value : BitVec 32) (s : State) : Result := .next (s.command .readyOnly (growthBlock value))

/-- CONFIG.SET of U (R63, R182): a changed value is applied at once; the SUSPECT test is made at every site. -/
def ceilingBlock (value : BitVec 32) (s : State) : Answer × State :=
  let u := clamp 10 65535 value.toNat
  (configAnswer value.toNat u,
    if u = s.config.ceiling then s
    else (s.setParams { s.config with ceiling := u }).mapSites fun _ r => r.suspectTest s.config.growth u)

/-- CONFIG.SET of U (R63). -/
def execConfigSetUncertaintyCeiling (value : BitVec 32) (s : State) : Result :=
  .next (s.command .readyOnly (ceilingBlock value))

/-- CONFIG.SET of W (R150, R182): stored, and read by later posts. -/
def spacingBlock (value : BitVec 32) (s : State) : Answer × State :=
  let w := clamp 0 10000000 value.toNat
  (configAnswer value.toNat w, s.setParams { s.config with spacing := w })

/-- CONFIG.SET of W (R182). -/
def execConfigSetLaunchSpacing (value : BitVec 32) (s : State) : Result := .next (s.command .readyOnly (spacingBlock value))

/-- CONFIG.SET of D (R39, R65, R182): a changed value is applied at once; drift pending is re-evaluated at every site. -/
def driftBlock (value : BitVec 32) (s : State) : Answer × State :=
  let d := clamp 0 1000000 value.toNat
  (configAnswer value.toNat d,
    if d = s.config.driftThreshold then s
    else (s.setParams { s.config with driftThreshold := d }).mapSites fun _ r => r.redrift d)

/-- CONFIG.SET of D (R39). -/
def execConfigSetDriftThreshold (value : BitVec 32) (s : State) : Result := .next (s.command .readyOnly (driftBlock value))

/-- CONFIG.SET of the attention mask (R172, R182): the nine marks are stored; never clamped. -/
def maskBlock (value : BitVec 32) (s : State) : Answer × State :=
  let c := CauseSet.ofNat value.toNat
  ({ code := .ok, data := bytesOf 4 c.toNat }, { s with attention := { s.attention with mask := c } })

/-- CONFIG.SET of the attention mask (R172). -/
def execConfigSetAttentionMask (value : BitVec 32) (s : State) : Result := .next (s.command .readyOnly (maskBlock value))

/-- CONFIG.GET (R183). -/
def execConfigGet (s : State) : Result :=
  .next (s.command .readyOnly fun s => ({ code := .ok, data := s.configData }, s))

end Sys2Proof.Machine
end

