-- ==== Sys2Proof/Machine/PlanCommands.lean ====
section
/-! DEFINITION. PLAN.READ and the two events of the solver (chapter 7). -/

namespace Sys2Proof.Machine

/-- PLAN.READ at the solver (R143). -/
def planReadBlock (first count : Byte) (s : State) : Answer × State :=
  match siteNo? first with
  | none => refuse .badValue s
  | some i =>
    if count.toNat < 1 ∨ 16 < count.toNat then refuse .badValue s
    else ({ code := .ok, data := s.planData i count.toNat }, s)

/-- PLAN.READ (R143, R180). -/
def execPlanRead (first count : Byte) (s : State) : Result := .next (s.command .readyOnly (planReadBlock first count))

/-- SOLVE_START (R125): the stale flag is yes and the solver IDLE. -/
def execSolveStart (s : State) : Result :=
  .next (if s.solver.mayStart then s.startSolve else s)

/-- SOLVE_COMPLETION (R127–R129): the running solve publishes its plan. Whether the next start comes before the vacating is a
free choice (log 39). -/
def execSolveCompletion (s : State) : Result :=
  .next (match s.solver.running with
    | some v => (s.completeSolve (Config.startsBeforeVacating s.choices) v.snapshot).countChoice
    | none => s)

end Sys2Proof.Machine
end

