-- ==== Sys2Proof/Machine/PortCommands.lean ====
section
/-! DEFINITION. The command port's own commands and events (chapters 9 and 10): frames, NOP, STATUS, ACK. -/

namespace Sys2Proof.Machine

/-! ### What SDO shifts out -/

/-- The byte number `k` that a frame shifts out (R176): the header and its data, then 00h for every further byte. -/
def CommandPort.clockedOut (k : Nat) (p : CommandPort) : Byte := p.sdo.getD k 0

/-- The bit that a frame shifts out at its `k`th clock (R176): bytes travel most significant bit first. -/
def CommandPort.shiftedOut (k : Nat) (p : CommandPort) : Bool := (p.clockedOut (k / 8)).getMsbD (k % 8)

/-- SDO at the `k`th clock of the command frame in progress (R176); at high impedance, `none`, while SEL is high. -/
def CommandPort.sdoBit? (k : Nat) (p : CommandPort) : Option Bool := if p.frameOpen then some (p.shiftedOut k) else none

/-- A frame whose SEL falls now is a pending frame (R177): none is in progress, RDY is low and the part is not held in
reset. -/
def State.opensPending (s : State) : Bool := !s.port.frameOpen && !s.held && !s.port.rdy

/-- The port within a pending frame whose SEL falls now: it shifts out a PENDING header of this moment (R177, R179). -/
def State.pendingPort (s : State) : CommandPort := { s.port with sdo := s.responseFrame (bare .pending) }

/-- SDO at the `k`th clock of the pending frame whose SEL falls now (R176, R177): driven until its SEL rises, which is within
the row PENDING_FRAME (log 29). `none` where the frame is none. -/
def State.pendingSdoBit? (k : Nat) (s : State) : Option Bool :=
  if s.opensPending then some (s.pendingPort.shiftedOut k) else none

/-! ### Frames -/

/-- COMMAND_FRAME_START (R177, R179): SEL falls while RDY is high. The waiting answer passes to the frame and is spent; the
header's top cause, device state and plan epoch are taken now. RDY may still be low in the state after a command: then its
rise came before this edge (log 6). -/
def execCommandFrameStart (s : State) : Result :=
  .next (if !s.port.frameOpen && !s.held && (s.port.rdy || s.port.selRise.isSome) then
      { s with port :=
        { s.port with
          sdo := s.responseFrame (s.port.response.getD (bare .ok))
          response := none, frameOpen := true, rdy := true, selRise := none } }
    else s)

/-- PENDING_FRAME (R177, R179): a frame whose SEL falls while RDY is low shifts out a PENDING header of this moment; its
bytes are discarded, and RDY and the response buffer are left as they were. In reset SDO is at high impedance (R187). -/
def execPendingFrame (s : State) : Result :=
  .next (if s.opensPending then { s with port := s.pendingPort } else s)

/-- BAD_COMMAND_FRAME (R178): the frame is answered BAD_LENGTH or BAD_COMMAND and reaches no block, whatever the operating
state. A CONFIG.SET of an unknown parameter passes R178, is tested against the operating state, and is answered BAD_VALUE
(R182; log 12). Bits that spell a command are no bad frame. -/
def execBadCommandFrame (bits : List Bool) (s : State) : Result :=
  .next (match parseBits bits with
    | .error .badLength => s.command .always (refuse .badLength)
    | .error .badCommand => s.command .always (refuse .badCommand)
    | .error .unknownParameter => s.command .readyOnly (refuse .badValue)
    | .ok _ => s)

/-- NOP (R184). -/
def execNop (s : State) : Result := .next (s.command .always accept)

/-- STATUS (R184). -/
def execStatus (s : State) : Result :=
  .next (s.command .always fun s => ({ code := .ok, data := s.statusData }, s))

/-- The marked latched causes set absent; the CAL outcome is cleared with CAL (R171). -/
def Attention.acknowledge (c : CauseSet) (a : Attention) : Attention :=
  { a with
    present := { a.present with cal := a.present.cal && !c.cal, step := a.present.step && !c.step }
    calOutcome := if c.cal then none else a.calOutcome }

/-- ACK at the attention unit (R171). -/
def ackBlock (causes : BitVec 16) (s : State) : Answer × State :=
  let c := CauseSet.ofNat causes.toNat
  if c.marksCondition then refuse .badValue s
  else
    let a := s.attention.acknowledge c
    ({ code := .ok, data := a.ackData }, { s with attention := a })

/-- ACK (R171, R180). -/
def execAck (causes : BitVec 16) (s : State) : Result := .next (s.command .readyOnly (ackBlock causes))

end Sys2Proof.Machine
end

