-- ==== Sys2Proof/Machine/SiteCommands.lean ====
section
/-! DEFINITION. The SITE commands (chapter 2) and NOTICE.TAKE (chapter 5). -/

namespace Sys2Proof.Machine

/-! ### Admitting -/

/-- The record an accepted SITE.ADMIT writes (R27): the link, and PROBING over reset values. -/
def SiteRecord.admitted (trunk : TrunkNo) (address : Nat) (asym trim : Int) : SiteRecord :=
  SiteRecord.enterProbing
    { SiteRecord.vacant with link := some { trunk := trunk, address := address, asym := asym, trim := trim } }

/-- SITE.ADMIT at the site table (R26, R27). Every A its two bytes carry is in range. -/
def siteAdmitBlock (site trunk address : Byte) (asym : BitVec 16) (trim : BitVec 24) (s : State) : Answer × State :=
  match siteNo? site, place? trunk address, trim? trim with
  | some i, some (t, a), some w =>
    if (s.sites.get i).state ≠ .vacant then refuse .inUse s
    else if s.placeHeld i t a then refuse .addrInUse s
    else accept (s.putSite i (SiteRecord.admitted t a asym.toInt w))
  | _, _, _ => refuse .badValue s

/-- SITE.ADMIT (R26, R27, R180). -/
def execSiteAdmit (site trunk address : Byte) (asym : BitVec 16) (trim : BitVec 24) (s : State) : Result :=
  .next (s.command .readyOnly (siteAdmitBlock site trunk address asym trim))

/-! ### Amending -/

/-- What a SITE.AMEND writes: the values its mask names; `none` for one it does not name (R28, R29). -/
structure Amendment where
  asym : Option Int
  trim : Option Int
  place : Option (TrunkNo × Nat)
  deriving DecidableEq, Repr

/-- The values a SITE.AMEND names, when every one of them is in range (R28). Values it does not name are not tested. -/
def amendment? (mask : Byte) (asym : BitVec 16) (trim : BitVec 24) (trunk address : Byte) : Option Amendment :=
  if namesTrim mask = true ∧ trim? trim = none then none
  else if namesPlace mask = true ∧ place? trunk address = none then none
  else some
    { asym := if namesAsym mask then some asym.toInt else none
      trim := if namesTrim mask then trim? trim else none
      place := if namesPlace mask then place? trunk address else none }

/-- The link with the named values written (R29). -/
def Link.amended (x : Amendment) (l : Link) : Link :=
  { trunk := (x.place.map Prod.fst).getD l.trunk
    address := (x.place.map Prod.snd).getD l.address
    asym := x.asym.getD l.asym
    trim := x.trim.getD l.trim }

/-- The amendment moves the link: it names a trunk and address different from the link's own (R30). -/
def Link.movedBy (x : Amendment) (l : Link) : Bool :=
  match x.place with
  | some p => decide (p ≠ (l.trunk, l.address))
  | none => false

/-- The record under an accepted SITE.AMEND: the named values are written, and a move enters PROBING (R29, R30). -/
def SiteRecord.amended (x : Amendment) (r : SiteRecord) : SiteRecord :=
  match r.link with
  | some l =>
    let r' : SiteRecord := { r with link := some (l.amended x) }
    if l.movedBy x then r'.enterProbing else r'
  | none => r

/-- The amendment would take a place another site holds: it moves the record onto one (R18, R28). -/
def State.amendmentCollides (i : SiteNo) (x : Amendment) (s : State) : Bool :=
  match (s.sites.get i).link, x.place with
  | some l, some p => l.movedBy x && s.placeHeld i p.1 p.2
  | _, _ => false

/-- The mask of a SITE.AMEND names nothing (R28, R181). -/
def namesNothing (mask : Byte) : Bool := !(namesAsym mask || namesTrim mask || namesPlace mask)

/-- SITE.AMEND at the site table (R25, R28–R30). -/
def siteAmendBlock (site mask : Byte) (asym : BitVec 16) (trim : BitVec 24) (trunk address : Byte) (s : State) :
    Answer × State :=
  match siteNo? site with
  | none => refuse .badValue s
  | some i =>
    if namesNothing mask then refuse .badValue s
    else if (s.sites.get i).state = .vacant then refuse .noSuch s
    else if (s.sites.get i).state = .retiring then refuse .busy s
    else
      match amendment? mask asym trim trunk address with
      | none => refuse .badValue s
      | some x =>
        if s.amendmentCollides i x then refuse .addrInUse s
        else accept (s.putSite i ((s.sites.get i).amended x))

/-- SITE.AMEND (R28–R30, R180). -/
def execSiteAmend (site mask : Byte) (asym : BitVec 16) (trim : BitVec 24) (trunk address : Byte) (s : State) : Result :=
  .next (s.command .readyOnly (siteAmendBlock site mask asym trim trunk address))

/-! ### Reading -/

/-- The record after an acknowledgement that takes effect (R38): the reported delay is d, and drift pending is re-evaluated
(R39). -/
def SiteRecord.acknowledged (threshold : Nat) (r : SiteRecord) : SiteRecord :=
  SiteRecord.redrift threshold { r with est := r.est.map fun e => { e with reported := e.d } }

/-- SITE.READ at the site table (R37, R38): the answer holds the record before the acknowledgement. -/
def siteReadBlock (site acknowledge : Byte) (s : State) : Answer × State :=
  match siteNo? site with
  | none => refuse .badValue s
  | some i =>
    let r := s.sites.get i
    if r.state = .vacant then refuse .noSuch s
    else
      let acts := isYes acknowledge && r.everAligned
      ({ code := .ok, data := r.readData s.config.growth i acts },
        if acts then s.putSite i (r.acknowledged s.config.driftThreshold) else s)

/-- SITE.READ (R37, R38, R180). -/
def execSiteRead (site acknowledge : Byte) (s : State) : Result :=
  .next (s.command .readyOnly (siteReadBlock site acknowledge))

/-! ### Suspending and resuming -/

/-- SITE.SUSPEND at the site table (R31). -/
def siteSuspendBlock (site : Byte) (s : State) : Answer × State :=
  match siteNo? site with
  | none => refuse .badValue s
  | some i =>
    match (s.sites.get i).state with
    | .vacant => refuse .noSuch s
    | .retiring => refuse .busy s
    | .suspended => accept s
    | .probing | .aligned | .holdover | .suspect => accept (s.putSite i ((s.sites.get i).enterSuspended false))

/-- SITE.SUSPEND (R31, R180). -/
def execSiteSuspend (site : Byte) (s : State) : Result := .next (s.command .readyOnly (siteSuspendBlock site))

/-- SITE.RESUME at the site table (R32). -/
def siteResumeBlock (site : Byte) (s : State) : Answer × State :=
  match siteNo? site with
  | none => refuse .badValue s
  | some i =>
    match (s.sites.get i).state with
    | .vacant => refuse .noSuch s
    | .suspended =>
      if (s.sites.get i).siteHeld then refuse .siteHeld s else accept (s.putSite i (s.sites.get i).enterProbing)
    | .probing | .aligned | .holdover | .suspect | .retiring => refuse .badState s

/-- SITE.RESUME (R32, R180). -/
def execSiteResume (site : Byte) (s : State) : Result := .next (s.command .readyOnly (siteResumeBlock site))

/-! ### Retiring -/

/-- The zone lists the site as a member. -/
def ZoneBody.hasMember (i : SiteNo) (b : ZoneBody) : Bool := b.members.any fun m => decide (m.1 = i)

/-- The zone without a retired member (R109, R114): its pair leaves the list, and the yield member it was becomes none. -/
def ZoneBody.without (i : SiteNo) (b : ZoneBody) : ZoneBody :=
  { b with
    members := b.members.filter fun m => decide (m.1 ≠ i)
    yieldMember := if b.yieldMember = some i then none else b.yieldMember }

/-- A zone record at the retirement of a site (R114, R116): a zone that holds it loses it and counts one more revision. -/
def ZoneRecord.withoutSite (i : SiteNo) (z : ZoneRecord) : ZoneRecord :=
  match z.body with
  | some b => if b.hasMember i then { body := some (b.without i), revision := z.revision + 1 } else z
  | none => z

/-- Whether the retirement of a site changes a zone record. -/
def ZoneRecord.holdsSite (i : SiteNo) (z : ZoneRecord) : Bool :=
  match z.body with
  | some b => b.hasMember i
  | none => false

/-- The retirement of a site reaches the zone table (R34, R113, R114), which marks the plan stale for each zone it changes
(R117). -/
def State.removeFromZones (i : SiteNo) (s : State) : State :=
  State.markStaleIf (s.zones.any (ZoneRecord.holdsSite i)) { s with zones := s.zones.mapIdx fun _ z => z.withoutSite i }

/-- SITE.RETIRE at the site table (R33, R34). -/
def siteRetireBlock (site : Byte) (s : State) : Answer × State :=
  match siteNo? site with
  | none => refuse .badValue s
  | some i =>
    match (s.sites.get i).state with
    | .vacant => refuse .noSuch s
    | .retiring => refuse .busy s
    | .probing | .aligned | .holdover | .suspect | .suspended =>
      accept ((s.putSite i (s.sites.get i).enterRetiring).removeFromZones i)

/-- SITE.RETIRE (R33, R34, R180). -/
def execSiteRetire (site : Byte) (s : State) : Result := .next (s.command .readyOnly (siteRetireBlock site))

/-! ### Taking a notice -/

/-- NOTICE.TAKE at the site table (R104, R105): the head of the notice order list gives its notice, its slot is emptied and it
leaves the list. -/
def noticeTakeBlock (s : State) : Answer × State :=
  match s.noticeOrder with
  | [] => refuse .empty s
  | i :: rest =>
    let r := s.sites.get i
    match r.notice with
    | some n =>
      ({ code := .ok, data := noticeData i n rest.length },
        (s.putSite i { r with notice := none }).setNoticeOrder rest)
    | none => refuse .empty s

/-- NOTICE.TAKE (R104, R180). -/
def execNoticeTake (s : State) : Result := .next (s.command .readyOnly noticeTakeBlock)

end Sys2Proof.Machine
end

