-- ==== Sys2Proof/Machine/TimeCommands.lean ====
section
/-! DEFINITION. The time base (chapter 1): the oscillator tick, calibration and TIME.READ. -/

namespace Sys2Proof.Machine

/-! ### The tick -/

/-- One tick in the time base (R1, R2): the raw count advances, F is added to the fraction, and now advances by one du when
the sum reaches 2^24. -/
def TimeBase.tick (t : TimeBase) : TimeBase :=
  if accumulatorOne ≤ t.fraction + t.f then
    { t with
      rawCount := t.rawCount + 1, fraction := t.fraction + t.f - accumulatorOne, now := t.now + 1
      sinceF := min pastTicks (t.sinceF + 1) }
  else { t with rawCount := t.rawCount + 1, fraction := t.fraction + t.f, sinceF := min pastTicks (t.sinceF + 1) }

/-- RDY has risen once more than 1,000 du have passed since SEL rose (R177). -/
def CommandPort.raiseRdy (now : Instant) (p : CommandPort) : CommandPort :=
  match p.selRise with
  | some t => if rdyBound < interval t now then { p with rdy := true, selRise := none } else p
  | none => p

/-- OSCILLATOR_TICK (R1, R2, R187): while the part is held in reset the time base does not count, and power-on reset counts
the ticks it waits for. -/
def execOscillatorTick (s : State) : Result :=
  .next (if s.held then
      (if s.resetUnit.por then
        { s with resetUnit := { s.resetUnit with porTicks := min powerOnTicks (s.resetUnit.porTicks + 1) } }
      else s)
    else { s with time := s.time.tick, port := s.port.raiseRdy s.time.tick.now })

/-! ### Calibration -/

/-- The recognized level of the CAL pin changes (R9). -/
def State.setCalPin (level : Bool) (s : State) : State := { s with time := { s.time with calPin := level } }

/-- CAL_RISING_EDGE (R9): in "awaiting rise" the raw count is recorded as the start count and the phase is "pulse high". -/
def execCalRisingEdge (s : State) : Result :=
  .next (if s.time.calPin then s
    else
      match s.time.cal with
      | .measuring m =>
        if m.phase = .awaitingRise then
          { s with time :=
            { s.time with calPin := true, cal := .measuring { m with phase := .pulseHigh s.time.rawCount } } }
        else s.setCalPin true
      | .uncalibrated | .calibrated => s.setCalPin true)

/-- The limit of the acceptance test: floor(4E / 50) (R10). -/
def calLimit (e : Nat) : Nat := 4 * e / 50

/-- C lies within the limit of 4E, in either direction (R10). -/
def countAccepted (e c : Nat) : Bool := decide (((c : Int) - 4 * e).natAbs ≤ calLimit e)

/-- The new rate factor: E × 2^24 / C to the nearest whole number, halves up (R11). -/
def newRateFactor (e c : Nat) : Nat := (2 * e * accumulatorOne + c) / (2 * c)

/-- A measurement ends without an F: the state returns to the return state, the record is written, the CAL cause is handed
on, and the change of state marks the plan stale (R7, R9, R10, R13). -/
def State.endMeasurement (m : Measurement) (outcome : CalOutcome) (c : Option Nat) (s : State) : State :=
  (({ s with time := s.time.failed m outcome c s.time.now } : State).markStale).latchCal outcome

/-- Every outstanding probe is voided (R89). -/
def State.voidProbes (s : State) : State :=
  { s with trunks := s.trunks.mapIdx fun _ t => { t with outstanding := none } }

/-- An accepted measurement (R11–R13): the computed F is installed, the state is CALIBRATED, outstanding probes are voided,
the plan is marked stale and the CAL cause is handed on. -/
def State.acceptMeasurement (m : Measurement) (c : Nat) (s : State) : State :=
  let f := newRateFactor m.e c
  ((({ s with time :=
      { s.time with
        f := f
        sinceF := 0
        fBefore := some s.time.f
        cal := .calibrated
        last := some { outcome := .accepted, e := m.e, c := some c, f := some f, instant := s.time.now } } } :
    State).voidProbes).markStale).latchCal .accepted

/-- CAL_FALLING_EDGE (R9–R13): "awaiting low" passes to "awaiting rise"; in "pulse high" the count C is formed and tested. -/
def execCalFallingEdge (s : State) : Result :=
  .next (if !s.time.calPin then s
    else
      let s' := s.setCalPin false
      match s.time.cal with
      | .measuring m =>
        match m.phase with
        | .awaitingLow => { s' with time := { s'.time with cal := .measuring { m with phase := .awaitingRise } } }
        | .awaitingRise => s'
        | .pulseHigh start =>
          let c := (s.time.rawCount - start).toNat
          if countAccepted m.e c then s'.acceptMeasurement m c else s'.endMeasurement m .range (some c)
      | .uncalibrated | .calibrated => s')

/-- CAL_WINDOW_EXPIRY (R5, R9): while MEASURING and now is the window deadline, the outcome is CAL_TIMEOUT. -/
def execCalWindowExpiry (s : State) : Result :=
  .next (match s.time.cal with
    | .measuring m => if m.deadline = s.time.now then s.endMeasurement m .timeout none else s
    | .uncalibrated | .calibrated => s)

/-- CAL.START at the time base (R8). -/
def calStartBlock (e : BitVec 24) (s : State) : Answer × State :=
  match s.time.cal with
  | .measuring _ => refuse .busy s
  | .uncalibrated | .calibrated =>
    if e.toNat < 100000 ∨ 10000000 < e.toNat then refuse .badValue s
    else
      accept (State.markStale
        { s with time :=
          { s.time with
            cal := .measuring
              { returnCalibrated := s.time.cal.answer, e := e.toNat, deadline := after s.time.now (3 * e.toNat)
                phase := if s.time.calPin then .awaitingLow else .awaitingRise } } })

/-- CAL.START (R8, R180). -/
def execCalStart (e : BitVec 24) (s : State) : Result := .next (s.command .readyOnly (calStartBlock e))

/-- TIME.READ (R14, R180). -/
def execTimeRead (s : State) : Result :=
  .next (s.command .readyOnly fun s => ({ code := .ok, data := s.time.readData }, s))

end Sys2Proof.Machine
end

