-- ==== Sys2Proof/Machine/TrunkCommands.lean ====
section
/-! DEFINITION. TRUNK.SET and TRUNK.GET (chapter 4): the configuration record, enabling (R71), disabling (R72) and what a
disabling does to the sites and the batches (R40, R159). -/

namespace Sys2Proof.Machine

/-! ### Enabling and disabling -/

/-- A trunk controller as it is enabled (R71): the slot timer runs to the instant of enabling plus P, the framer hunts, both
counts are 0, the transmit queue is empty and the bench responder holds no echo (R191). -/
def Trunk.enabled (now : Instant) (period : Nat) (tr : Trunk) : Trunk :=
  { tr with
    enable := true, timer := .running (after now period), batchQueue := [], replyQueue := [], framer := .hunting
    discards := 0, strays := 0, bench := .empty }

/-- A trunk controller as it is disabled (R72): the outstanding probe is voided, the frame in transmission cut off, the queue
emptied, the timer STOPPED, the framer and the bench responder (R191) emptied. -/
def Trunk.disabled (tr : Trunk) : Trunk :=
  { tr with
    enable := false, timer := .stopped, outstanding := none, batchQueue := [], replyQueue := [], tx := none, framer := .idle
    bench := .empty }

/-- The slots of the batch frames a disabling drops (R72): the one in transmission, then those in the queue in order. -/
def Trunk.droppedSlots (tr : Trunk) : List SlotNo :=
  (match tr.tx with
    | some x =>
      match x.item with
      | .batch i => [i]
      | .probe _ | .reply _ => []
    | none => []) ++ tr.batchQueue

/-- What the disabling of its trunk does to a record (R40): PROBING, ALIGNED, HOLDOVER and SUSPECT enter PROBING. -/
def SiteRecord.trunkDisabled (t : TrunkNo) (r : SiteRecord) : SiteRecord :=
  if r.onTrunk t && r.phase.probed then r.enterProbing else r

/-- The enabling of a trunk (R71). -/
def State.enableTrunk (t : TrunkNo) (s : State) : State :=
  (s.putTrunk t ((s.trunks.get t).enabled s.time.now s.config.probePeriod)).markStale

/-- The disabling of a trunk (R72): the controller stops, the batch frames are reported dropped to the scheduler in order,
the site table sends the trunk's probed sites to PROBING (R40), and the plan is marked stale for the disabling itself. -/
def State.disableTrunk (t : TrunkNo) (s : State) : State :=
  (((s.trunks.get t).droppedSlots.foldl (fun s i => s.frameEnded t false i) (s.putTrunk t (s.trunks.get t).disabled)).mapSites
    fun _ r => r.trunkDisabled t).markStale

/-! ### TRUNK.SET -/

/-- The configuration values written by an accepted TRUNK.SET (R70). -/
def Trunk.configured (rate : BitRate) (gran : Granularity) (benchDelay : Nat) (tr : Trunk) : Trunk :=
  { tr with rate := rate, gran := gran, benchDelay := benchDelay }

/-- An accepted TRUNK.SET (R70): the values are written, then the trunk is enabled, disabled or left as it is. -/
def State.configureTrunk (t : TrunkNo) (enable : Bool) (rate : BitRate) (gran : Granularity) (benchDelay : Nat) (s : State) :
    State :=
  let s' := s.putTrunk t ((s.trunks.get t).configured rate gran benchDelay)
  match (s.trunks.get t).enable, enable with
  | false, true => s'.enableTrunk t
  | true, false => s'.disableTrunk t
  | false, false => s'
  | true, true => s'

/-- TRUNK.SET at the trunk controller (R69, R70). Every bench delay its three bytes carry is in range. -/
def trunkSetBlock (trunk enable : Byte) (rate : BitVec 24) (gran : Byte) (benchDelay : BitVec 24) (s : State) :
    Answer × State :=
  match trunkNo? trunk with
  | none => refuse .badValue s
  | some t =>
    match rate? rate, gran? gran with
    | some r, some g =>
      let tr := s.trunks.get t
      if tr.enable = true ∧ (r ≠ tr.rate ∨ g ≠ tr.gran) then refuse .trunkActive s
      else accept (s.configureTrunk t (isYes enable) r g benchDelay.toNat)
    | _, _ => refuse .badValue s

/-- TRUNK.SET (R69–R72, R180). -/
def execTrunkSet (trunk enable : Byte) (rate : BitVec 24) (gran : Byte) (benchDelay : BitVec 24) (s : State) : Result :=
  .next (s.command .readyOnly (trunkSetBlock trunk enable rate gran benchDelay))

/-! ### TRUNK.GET -/

/-- TRUNK.GET at the trunk controller (R92). -/
def trunkGetBlock (trunk : Byte) (s : State) : Answer × State :=
  match trunkNo? trunk with
  | none => refuse .badValue s
  | some t => ({ code := .ok, data := s.trunkData t }, s)

/-- TRUNK.GET (R92, R180). -/
def execTrunkGet (trunk : Byte) (s : State) : Result := .next (s.command .readyOnly (trunkGetBlock trunk))

end Sys2Proof.Machine
end

