-- ==== Sys2Proof/Machine/Tracker.lean ====
section
/-! DEFINITION. The delay tracker (chapter 3): forming a sample, acquisition, tracking, jump candidates and re-seating,
misses and holdover. It works on one site record and says what else it hands on. -/

namespace Sys2Proof.Machine

/-- What the tracker makes of a probe result at one record (R66): the record after it, whether an acquisition completed
(so that the state changed, even where the SUSPECT test sent a SUSPECT site back to SUSPECT; log 18), whether it re-seated. -/
structure Tracked where
  record : SiteRecord
  completed : Bool
  reseated : Bool
  deriving DecidableEq, Repr

/-- An entry joins the tail of a list of fixed capacity; when the list is then too long the oldest is removed (R46, R54). -/
def pushBounded (capacity : Nat) (l : List Nat) (y : Nat) : List Nat :=
  if capacity < (l ++ [y]).length then (l ++ [y]).drop 1 else l ++ [y]

/-- The largest of some samples. -/
def largest (l : List Nat) : Nat := l.foldl max 0

/-- The smallest of some samples. -/
def smallest (l : List Nat) : Nat := l.foldl min (largest l)

/-- The largest minus the smallest (R47, R55). -/
def span (l : List Nat) : Nat := largest l - smallest l

/-- The sum of |y − d| over some samples (R47, R55). -/
def deviationSum (d : Nat) (l : List Nat) : Nat := (l.map fun y => ((y : Int) - d).natAbs).sum

/-- The sample of an echo result (R43, R44): x = L − T + A; none when x is negative or gives a sample beyond 16,777,215,
and otherwise (x + 1) div 2. -/
def sample? (loop turnaround : Nat) (asym : Int) : Option Nat :=
  let x : Int := loop - turnaround + asym
  if x < 0 ∨ 2 * (maxDelay : Int) + 1 ≤ x then none else some ((x.toNat + 1) / 2)

/-- δ / 8 rounded to the nearest whole du with halves rounded away from zero (R51). -/
def eighthRounded (delta : Int) : Int :=
  if 0 ≤ delta then ((delta.natAbs + 4) / 8 : Nat) else -((delta.natAbs + 4) / 8 : Nat)

/-- The step of d (R51). -/
def stepDelay (d y : Nat) : Nat := ((d : Int) + eighthRounded ((y : Int) - d)).toNat

/-- The step of s: (|δ| − s) / 8 truncated toward zero, the result limited to 65,535 (R52). -/
def stepDeviation (s d y : Nat) : Nat :=
  min maxCount ((s : Int) + Int.tdiv ((((y : Int) - d).natAbs : Int) - s) 8).toNat

/-- A sample at a site in PROBING or SUSPECT (R46–R48). `again` rebuilds the state with a list that has not completed. -/
def acquire (p : Params) (again : List Nat → SitePhase) (list : List Nat) (y : Nat) (r : SiteRecord) : Tracked :=
  let list' := pushBounded acquisitionCapacity list y
  if list'.length = 4 ∧ span list' ≤ p.jumpLimit then
    let d := (list'.sum + 2) / 4
    let aligned : SiteRecord :=
      { r with
        phase := .aligned []
        est := some { d := d, reported := d }
        s := min maxCount (deviationSum d list' / 4)
        m := 0
        drift := driftRule p.driftThreshold (some { d := d, reported := d }) }
    { record := aligned.suspectTest p.growth p.ceiling, completed := true, reseated := false }
  else
    { record := { r with phase := again list', m := 0 }, completed := false, reseated := false }

/-- An estimate with a new d; the reported delay is left as it was (R53, R56). -/
def movedEstimate (d : Nat) (est : Option Estimate) : Option Estimate :=
  some { d := d, reported := (est.map Estimate.reported).getD d }

/-- A sample within J of d at a site in ALIGNED or HOLDOVER (R51–R53). -/
def acceptSample (p : Params) (y : Nat) (r : SiteRecord) : Tracked :=
  let est := movedEstimate (stepDelay r.d y) r.est
  let tracked : SiteRecord :=
    { r with
      phase := .aligned []
      est := est
      s := stepDeviation r.s r.d y
      m := 0
      drift := driftRule p.driftThreshold est }
  { record := tracked.suspectTest p.growth p.ceiling, completed := false, reseated := false }

/-- A sample beyond J of d at a site in ALIGNED or HOLDOVER (R54–R56). `again` rebuilds the state with its jump list. -/
def jumpCandidate (p : Params) (again : List Nat → SitePhase) (list : List Nat) (y : Nat) (r : SiteRecord) : Tracked :=
  let list' := pushBounded jumpCapacity list y
  if list'.length = 3 ∧ span list' ≤ p.jumpLimit then
    let d := (list'.sum + 1) / 3
    let est := movedEstimate d r.est
    let seated : SiteRecord :=
      { r with
        phase := .aligned []
        est := est
        s := min maxCount (deviationSum d list' / 3)
        m := 0
        drift := driftRule p.driftThreshold est }
    { record := seated.suspectTest p.growth p.ceiling, completed := false, reseated := true }
  else
    { record := SiteRecord.suspectTest p.growth p.ceiling { r with phase := again list', m := 0 }
      completed := false, reseated := false }

/-- A sample at a tracked site is accepted when |y − d| is at most J, and a jump candidate otherwise (R50). -/
def trackSample (p : Params) (again : List Nat → SitePhase) (list : List Nat) (y : Nat) (r : SiteRecord) : Tracked :=
  if ((y : Int) - r.d).natAbs ≤ p.jumpLimit then acceptSample p y r else jumpCandidate p again list y r

/-- A sample at a record, by the state it is in (R67). A VACANT, SUSPENDED or RETIRING site is reached by none (R42). -/
def applySample (p : Params) (y : Nat) (r : SiteRecord) : Tracked :=
  match r.phase with
  | .probing list => acquire p .probing list y r
  | .suspect list => acquire p .suspect list y r
  | .aligned list => trackSample p .aligned list y r
  | .holdover list h => trackSample p (fun l => .holdover l h) list y r
  | .vacant | .suspended _ | .retiring => { record := r, completed := false, reseated := false }

/-- A miss at a record, by the state it is in (R49, R57, R58), with the SUSPECT test that follows it (R59). -/
def applyMiss (p : Params) (r : SiteRecord) : SiteRecord :=
  let m := min 3 (r.m + 1)
  match r.phase with
  | .probing _ | .suspect _ => { r with m := m }
  | .aligned list =>
    SiteRecord.suspectTest p.growth p.ceiling
      { r with phase := if 3 ≤ m then .holdover list 0 else .aligned list, m := m }
  | .holdover list h =>
    SiteRecord.suspectTest p.growth p.ceiling { r with phase := .holdover list (min maxCount (h + 1)), m := m }
  | .vacant | .suspended _ | .retiring => r

/-- The timeout result at a site: a miss (R88). -/
def State.timeoutResult (i : SiteNo) (s : State) : State :=
  s.putSite i (applyMiss s.config (s.sites.get i))

/-- An echo result at a site (R42–R44): the sample is formed with the A the record holds now; an implausible one is applied
as a miss. The record, the stale mark and the causes are handed on together (R66). -/
def State.echoResult (i : SiteNo) (loop turnaround : Nat) (s : State) : State :=
  let r := s.sites.get i
  match sample? loop turnaround ((r.link.map Link.asym).getD 0) with
  | none => s.timeoutResult i
  | some y =>
    let t := applySample s.config y r
    ((s.putSite i t.record).markStaleIf t.completed).latchStep t.reseated

end Sys2Proof.Machine
end

