-- ==== Sys2Proof/Machine/TrunkEvents.lean ====
section
/-! DEFINITION. The events of the trunks (chapters 4, 5 and 11): the slot timer, the transmitter, the receive framer, probe
matching, notices and the bench responder. -/

namespace Sys2Proof.Machine

/-- A count that saturates at 65,535 (R77, R86). -/
def bump (n : Nat) : Nat := min 65535 (n + 1)

/-! ### The slot timer -/

/-- Probe-eligible on this trunk (R83). -/
def State.eligibleOn (s : State) (t : TrunkNo) (i : SiteNo) : Bool := s.probeEligible i && (s.sites.get i).onTrunk t

/-- The choice of the next site to probe (R83): the smallest eligible number above the last site probed, else the smallest of
all. -/
def State.chooseProbe (s : State) (t : TrunkNo) : Option SiteNo :=
  let eligible := (List.finRange 64).filter fun i => s.eligibleOn t i
  let above :=
    match (s.trunks.get t).lastProbed with
    | some l => eligible.filter fun i => decide (l < i)
    | none => eligible
  above.head?.or eligible.head?

/-- SLOT_DEADLINE_EXPIRY (R83): a probe request is queued and the timer waits, or the timer runs on by P. -/
def execSlotDeadlineExpiry (t : TrunkNo) (s : State) : Result :=
  .next (match (s.trunks.get t).timer with
    | .running deadline =>
      if deadline = s.time.now then
        match s.chooseProbe t with
        | some i => s.putTrunk t { s.trunks.get t with timer := .waiting i }
        | none => s.putTrunk t { s.trunks.get t with timer := .running (after deadline s.config.probePeriod) }
      else s
    | .stopped | .waiting _ => s)

/-! ### Transmitting -/

/-- An echo joins the undelivered ones in order of due instant, behind those due at the same instant (R190). -/
def insertEcho (e : BenchEcho) : List BenchEcho → List BenchEcho
  | [] => [e]
  | x :: rest => if isLater x.due e.due then e :: x :: rest else x :: insertEcho e rest

/-- The bench responder takes a probe (R190): it builds an echo due one bench delay later, unless 16 wait. -/
def BenchResponder.answerProbe (now : Instant) (delay : Nat) (address : Nat) (seq : Byte) (b : BenchResponder) :
    BenchResponder :=
  if b.undelivered.length < benchCapacity then
    { b with
      undelivered := insertEcho { address := BitVec.ofNat 8 address, seq := seq, due := after now delay } b.undelivered }
  else b

/-- The start of a probe frame to a site at its current address (R84, R85; in BENCH mode R190). -/
def Trunk.startProbe (t : TrunkNo) (i : SiteNo) (address : Nat) (now : Instant) (raw : BitVec 32) (p : Params) (mode : Mode)
    (tr : Trunk) : Trunk :=
  { tr with
    timer := .running (after now p.probePeriod)
    lastProbed := some i
    nextSeq := tr.nextSeq + 1
    outstanding := some
      { site := i, trunk := t, address := address, seq := tr.nextSeq, instant := now, deadline := after now p.probeTimeout }
    tx := some { item := .probe i, frame := probeFrame address tr.nextSeq, startRaw := raw }
    bench :=
      match mode with
      | .bench => tr.bench.answerProbe now tr.benchDelay address tr.nextSeq
      | .align => tr.bench }

/-- The site a probe request is sent to (R84): the one it names while that is eligible on this trunk, else a new choice. -/
def State.probeTarget (s : State) (t : TrunkNo) (requested : SiteNo) : Option SiteNo :=
  if s.eligibleOn t requested then some requested else s.chooseProbe t

/-- PROBE_FRAME_START (R79, R84): the transmitter is idle and only the probe request waits. -/
def execProbeFrameStart (t : TrunkNo) (s : State) : Result :=
  let tr := s.trunks.get t
  .next (match tr.timer, tr.tx, tr.batchQueue, tr.replyQueue with
    | .waiting requested, none, [], [] =>
      match s.probeTarget t requested with
      | some i =>
        s.putTrunk t (tr.startProbe t i (((s.sites.get i).link.map Link.address).getD 0) s.time.now s.time.rawCount s.config
          s.port.mode)
      | none => s.putTrunk t { tr with timer := .running (after s.time.now s.config.probePeriod) }
    | _, _, _, _ => s)

/-- BATCH_FRAME_START (R79, R80, R158): the oldest batch frame starts on the idle transmitter, and the scheduler fixes its
holds for the frame instant first. -/
def execBatchFrameStart (t : TrunkNo) (s : State) : Result :=
  let tr := s.trunks.get t
  .next (match tr.tx, tr.batchQueue with
    | none, i :: rest =>
      match s.slots.get i with
      | some b =>
        let started := startFrame t tr.gran s.time.now b
        (s.putSlot i (some started.1)).putTrunk t
          { tr with
            batchQueue := rest
            tx := some { item := .batch i, frame := batchFrame b.tag started.2 b.payload, startRaw := s.time.rawCount } }
      | none => s
    | _, _ => s)

/-- NOTICE_REPLY_START (R79): the oldest notice reply starts on the idle transmitter, no batch frame waiting. -/
def execNoticeReplyStart (t : TrunkNo) (s : State) : Result :=
  let tr := s.trunks.get t
  .next (match tr.tx, tr.batchQueue, tr.replyQueue with
    | none, [], r :: rest =>
      s.putTrunk t
        { tr with
          replyQueue := rest
          tx := some { item := .reply r.address, frame := replyFrame r, startRaw := s.time.rawCount } }
    | _, _, _ => s)

/-- The level of the TXD line of a trunk, mark as true (R74): the bits of the frame in transmission, and mark with none, and
in BENCH mode, where the transmitter sends into the bench responder (11, section 11.4). -/
def State.txd (t : TrunkNo) (s : State) : Bool :=
  let tr := s.trunks.get t
  match s.port.mode, tr.tx with
  | .align, some x => lineLevel tr.rate x.frame x.startRaw s.time.rawCount
  | _, _ => true

/-- FRAME_END (R79, R80): the transmitter becomes idle, and a batch frame is reported sent. -/
def execFrameEnd (t : TrunkNo) (s : State) : Result :=
  let tr := s.trunks.get t
  .next (match tr.tx with
    | some x =>
      if lineTimePassed tr.rate x.frame.length x.startRaw s.time.rawCount then
        let s' := s.putTrunk t { tr with tx := none }
        match x.item with
        | .batch i => s'.frameEnded t true i
        | .probe _ | .reply _ => s'
      else s
    | none => s)

/-! ### Receiving -/

/-- The framer discards the frame it collects, counts it and hunts again (R77). -/
def Trunk.discardFrame (tr : Trunk) : Trunk := { tr with framer := .hunting, discards := bump tr.discards }

/-- The bytes on the line of a hunting framer, each with the ticks since its start bit; no stop bit is asked for (log 37). -/
def huntedBytes (line : List (Bool × Nat)) : List (Byte × Nat) := (lineBytes 0 line).map fun b => (b.value, b.start)

/-- The instant of the delimiter at the end of the line, of which every byte is known with the ticks since its start bit: what
now was at the start bit of the C5h, the last byte but one (R4, R76). `none` where a delimiter cannot have taken so long.
DESIGN CHOICE (log 37): between the C5h and the 3Ah that follows it "at once" the model allows the line to rest for up to two
byte times, as R77 does within a frame; and the 3Ah counts with its last data bit, before its stop bit, so at least 19 bit times
have passed. -/
def delimiterInstant (rate : BitRate) (line : List (Byte × Nat)) (time : TimeBase) : Option Instant :=
  match line.dropLast.getLast? with
  | some (_, ticks) =>
    if 19 * Config.oscillatorHz ≤ ticks * rate.bps ∧ ticks * rate.bps ≤ 4 * 10 * Config.oscillatorHz then time.nowAt ticks
    else none
  | none => none

/-- DELIMITER_FOUND (R4, R76): in ALIGN mode the hunting framer finds a delimiter and records the instant of the start bit of
its C5h. DESIGN CHOICE (log 37): R76 says nothing of the stop bits of the two bytes, and R77's framing error is one of a frame
being collected; the model asks for no stop bit at mark while hunting, and finds the delimiter with the last data bit of the
3Ah. -/
def execDelimiterFound (t : TrunkNo) (line : List (Bool × Nat)) (s : State) : Result :=
  let tr := s.trunks.get t
  let bytes := huntedBytes line
  .next (match s.port.mode, tr.framer, hunt false (bytes.map Prod.fst), delimiterInstant tr.rate bytes s.time with
    | .align, .hunting, true, some instant => s.putTrunk t { tr with framer := .collecting instant }
    | _, _, _, _ => s)

/-- RECEIVE_FRAME_DISCARD (R74, R77): a framing error, bad length, bad type or check failure. -/
def execReceiveFrameDiscard (t : TrunkNo) (bits : List Bool) (stopBitAtSpace : Bool) (s : State) : Result :=
  let tr := s.trunks.get t
  .next (match s.port.mode, tr.framer, openFrameBytes? bits with
    | .align, .collecting _, some bytes => if discardsAt bytes stopBitAtSpace then s.putTrunk t tr.discardFrame else s
    | _, _, _ => s)

/-- RECEIVE_GAP (R77): more than two byte times at mark within a frame. -/
def execReceiveGap (t : TrunkNo) (markTicks : Nat) (s : State) : Result :=
  let tr := s.trunks.get t
  .next (match s.port.mode, tr.framer, isGap tr.rate markTicks with
    | .align, .collecting _, true => s.putTrunk t tr.discardFrame
    | _, _, _ => s)

/-! ### Probe matching -/

/-- The echo matches the outstanding probe (R86). -/
def Outstanding.matchedBy (address seq : Byte) (o : Outstanding) : Bool :=
  decide (address.toNat = o.address ∧ seq = o.seq)

/-- The site a probe named is still probe-eligible where the probe was sent (R87, R88). -/
def State.stillThere (s : State) (o : Outstanding) : Bool :=
  s.probeEligible o.site && (s.sites.get o.site).isAt o.trunk o.address

/-- An echo that does not match raises the stray echo count (R86). -/
def Trunk.strayEcho (tr : Trunk) : Trunk := { tr with strays := bump tr.strays }

/-- The outstanding probe closes (R85). -/
def Trunk.closeProbe (tr : Trunk) : Trunk := { tr with outstanding := none }

/-- An echo is matched against the outstanding probe of its trunk (R86, R87). -/
def State.matchEcho (t : TrunkNo) (address seq : Byte) (turnaround : BitVec 16) (instant : Instant) (s : State) : State :=
  let tr := s.trunks.get t
  match tr.outstanding with
  | some o =>
    if o.matchedBy address seq then
      let s' := s.putTrunk t tr.closeProbe
      if s'.stillThere o then s'.echoResult o.site (interval o.instant instant) turnaround.toNat else s'
    else s.putTrunk t tr.strayEcho
  | none => s.putTrunk t tr.strayEcho

/-- The echo the bench responder is delivering has arrived whole with these bytes (R190). -/
def BenchResponder.completes (rate : BitRate) (raw : BitVec 32) (bytes : List Byte) (b : BenchResponder) : Bool :=
  match b.delivering with
  | some d => decide (bytes = echoBytes d.echo.address d.echo.seq 0) && lineTimePassed rate 10 d.startRaw raw
  | none => false

/-- What the line of a trunk can deliver in this mode: in ALIGN what the sites send, in BENCH the echo of the bench
responder (R91, R190). -/
def Trunk.canDeliver (mode : Mode) (raw : BitVec 32) (bytes : List Byte) (tr : Trunk) : Bool :=
  match mode with
  | .align => true
  | .bench => tr.bench.completes tr.rate raw bytes

/-- The framer returns to hunting after a frame it has taken (R76); a bench delivery is over with it (R190). -/
def Trunk.frameTaken (tr : Trunk) : Trunk :=
  { tr with framer := .hunting, bench := { tr.bench with delivering := none } }

/-- ECHO_TAKEN (R74, R76, R86, R87, R190). -/
def execEchoTaken (t : TrunkNo) (bits : List Bool) (s : State) : Result :=
  let tr := s.trunks.get t
  .next (match frameBytes? bits with
    | some bytes =>
      match tr.framer, judge bytes, tr.canDeliver s.port.mode s.time.rawCount bytes with
      | .collecting instant, .echo address seq turnaround, true =>
        (s.putTrunk t tr.frameTaken).matchEcho t address seq turnaround instant
      | _, _, _ => s
    | none => s)

/-- PROBE_TIMEOUT_EXPIRY (R85, R88): the probe closes, and a site that is still probe-eligible at the same trunk and address is
handed a timeout result. DEDUCED (log 36): so it is after a command of the same du that leaves the site there, as a SITE.AMEND
writing A does, for R25's cell gives no miss only to a probe closed or a site no longer eligible. -/
def execProbeTimeoutExpiry (t : TrunkNo) (s : State) : Result :=
  let tr := s.trunks.get t
  .next (match tr.outstanding with
    | some o =>
      if o.deadline = s.time.now then
        let s' := s.putTrunk t tr.closeProbe
        if s'.stillThere o then s'.timeoutResult o.site else s'
      else s
    | none => s)

/-! ### Notices -/

/-- The states in which a site's notices are judged (R95). -/
def SiteState.takesNotices : SiteState → Bool
  | .probing | .aligned | .holdover | .suspect | .suspended => true
  | .vacant | .retiring => false

/-- The site a notice's address matches on the trunk it came in on (R95). -/
def State.noticeSite? (s : State) (t : TrunkNo) (address : Byte) : Option SiteNo :=
  (List.finRange 64).find? fun i =>
    (s.sites.get i).isAt t address.toNat && (s.sites.get i).state.takesNotices

/-- The effect of a TAKEN notice on the record (R99–R102). -/
def SiteRecord.noticeEffect (kind : NoticeKind) (r : SiteRecord) : SiteRecord :=
  match kind, r.phase with
  | .siteRestart, .probing _ => r.enterProbing
  | .siteRestart, .aligned _ => r.enterProbing
  | .siteRestart, .holdover _ _ => r.enterProbing
  | .siteRestart, .suspect _ => r.enterProbing
  | .serviceOff, .probing _ => r.enterSuspended true
  | .serviceOff, .aligned _ => r.enterSuspended true
  | .serviceOff, .holdover _ _ => r.enterSuspended true
  | .serviceOff, .suspect _ => r.enterSuspended true
  | .serviceOff, .suspended _ => { r with phase := .suspended true }
  | .serviceOn, .suspended true => r.enterProbing
  | _, _ => r

/-- The notice handler's decision (R95–R97). -/
def State.noticeDecision (s : State) (t : TrunkNo) (address kind : Byte) : Decision :=
  match s.noticeSite? t address, noticeKind? kind with
  | some i, some _ => if (s.sites.get i).notice.isSome then .busy else .taken
  | _, _ => .unknown

/-- A TAKEN notice is stored, its site joins the tail of the notice order list, and its effect is applied (R97). -/
def State.storeNotice (i : SiteNo) (n : Notice) (s : State) : State :=
  (s.putSite i (SiteRecord.noticeEffect n.kind { s.sites.get i with notice := some n })).setNoticeOrder (s.noticeOrder ++ [i])

/-- What a notice does at the site table: everything when TAKEN, nothing when BUSY or UNKNOWN (R95–R97). -/
def State.applyNotice (t : TrunkNo) (address kind : Byte) (detail : BitVec 16) (instant : Instant) (s : State) : State :=
  match s.noticeSite? t address, noticeKind? kind with
  | some i, some k =>
    if (s.sites.get i).notice.isSome then s else s.storeNotice i { kind := k, detail := detail, instant := instant }
  | _, _ => s

/-- NOTICE_ARRIVAL (R74, R81, R91, R94): with 8 replies waiting the notice is discarded; otherwise it is judged and its reply
queued. -/
def execNoticeArrival (t : TrunkNo) (bits : List Bool) (s : State) : Result :=
  let tr := s.trunks.get t
  .next (match s.port.mode, tr.framer, (frameBytes? bits).map judge with
    | .align, .collecting instant, some (.notice address kind detail seq) =>
      if replyCapacity ≤ tr.replyQueue.length then s.putTrunk t tr.discardFrame
      else
        (s.putTrunk t
          { tr with
            framer := .hunting
            replyQueue :=
              tr.replyQueue ++ [{ address := address, seq := seq, decision := s.noticeDecision t address kind }] }).applyNotice
          t address kind detail instant
    | _, _, _ => s)

/-! ### The bench responder -/

/-- BENCH_ECHO_DELIVERY (R190): in BENCH mode the responder of an enabled trunk begins to deliver its first echo once that is
due and no other is being delivered; the delimiter instant is this one, and the framer collects the echo (log 11). -/
def execBenchEchoDelivery (t : TrunkNo) (s : State) : Result :=
  let tr := s.trunks.get t
  .next (match s.port.mode, tr.enable, tr.bench.delivering, tr.bench.undelivered with
    | .bench, true, none, e :: rest =>
      if isLater e.due s.time.now then s
      else
        s.putTrunk t
          { tr with
            framer := .collecting s.time.now
            bench :=
              { undelivered := rest
                delivering := some { echo := e, instant := s.time.now, startRaw := s.time.rawCount } } }
    | _, _, _, _ => s)

end Sys2Proof.Machine
end

