-- ==== Sys2Proof/Machine/ZoneCommands.lean ====
section
/-! DEFINITION. The ZONE commands (chapter 6). -/

namespace Sys2Proof.Machine

/-! ### Defining -/

/-- The members of a ZONE.DEFINE with their site numbers read; none when one is outside 0..63 (R110, test 4). -/
def members? : List (Byte × BitVec 16) → Option (List (SiteNo × Nat))
  | [] => some []
  | (b, p) :: rest =>
    match siteNo? b, members? rest with
    | some i, some l => some ((i, p.toNat) :: l)
    | _, _ => none

/-- The yield member of a ZONE.DEFINE among its members: FFh means none; no answer when it is not one of them (R110, test 6;
R181). -/
def yieldMember? (b : Byte) (members : List (SiteNo × Nat)) : Option (Option SiteNo) :=
  if b = 255 then some none
  else
    match siteNo? b with
    | some i => if members.any (fun m => decide (m.1 = i)) then some (some i) else none
    | none => none

/-- A site number appears twice among the members (R110, test 5). -/
def hasDuplicate (members : List (SiteNo × Nat)) : Bool := !decide (members.map Prod.fst).Nodup

/-- A site that ZONE.DEFINE refuses as a member: VACANT or RETIRING (R110, test 7). -/
def SiteState.refusedAsMember : SiteState → Bool
  | .vacant | .retiring => true
  | .probing | .aligned | .holdover | .suspect | .suspended => false

/-- The zone body of a ZONE.DEFINE that passes the tests of R110 on its values alone (tests 2 to 6). -/
def zoneBody? (tolerance : BitVec 16) (yieldMember : Byte) (members : List (Byte × BitVec 16)) : Option ZoneBody :=
  if members.length < 2 ∨ 6 < members.length ∨ tolerance = 0 then none
  else
    match members? members with
    | none => none
    | some l =>
      if hasDuplicate l then none
      else
        match yieldMember? yieldMember l with
        | some y => some { tolerance := tolerance.toNat, members := l, yieldMember := y }
        | none => none

/-- A zone record changes to another body, with one more revision (R116), and marks the plan stale (R117). -/
def State.putZone (z : ZoneNo) (body : Option ZoneBody) (s : State) : State :=
  State.markStale { s with zones := s.zones.set z { body := body, revision := (s.zones.get z).revision + 1 } }

/-- ZONE.DEFINE at the zone table (R110, R111). Tests 2 to 6 share the answer BAD_VALUE. -/
def zoneDefineBlock (zone : Byte) (tolerance : BitVec 16) (yieldMember : Byte) (members : List (Byte × BitVec 16))
    (s : State) : Answer × State :=
  match zoneNo? zone, zoneBody? tolerance yieldMember members with
  | some z, some b =>
    if b.members.any (fun m => (s.sites.get m.1).state.refusedAsMember) then refuse .noSuch s
    else accept (s.putZone z (some b))
  | _, _ => refuse .badValue s

/-- ZONE.DEFINE (R110, R111, R180). -/
def execZoneDefine (zone : Byte) (tolerance : BitVec 16) (yieldMember : Byte) (members : List (Byte × BitVec 16))
    (s : State) : Result :=
  .next (s.command .readyOnly (zoneDefineBlock zone tolerance yieldMember members))

/-! ### Deleting and reading -/

/-- ZONE.DELETE at the zone table (R112). -/
def zoneDeleteBlock (zone : Byte) (s : State) : Answer × State :=
  match zoneNo? zone with
  | none => refuse .badValue s
  | some z => if (s.zones.get z).body.isSome then accept (s.putZone z none) else refuse .noSuch s

/-- ZONE.DELETE (R112, R180). -/
def execZoneDelete (zone : Byte) (s : State) : Result := .next (s.command .readyOnly (zoneDeleteBlock zone))

/-- ZONE.READ at the zone table (R120). -/
def zoneReadBlock (zone : Byte) (s : State) : Answer × State :=
  match zoneNo? zone with
  | none => refuse .badValue s
  | some z =>
    match (s.zones.get z).body with
    | none => refuse .noSuch s
    | some b => ({ code := .ok, data := s.zoneData z b }, s)

/-- ZONE.READ (R120, R180). -/
def execZoneRead (zone : Byte) (s : State) : Result := .next (s.command .readyOnly (zoneReadBlock zone))

end Sys2Proof.Machine
end

