-- ==== Sys2Proof/Machine/Dispatch.lean ====
section
/-! DEFINITION. The dispatch of a command to its meaning: one arm a row of spec/opcode_table.json. -/

namespace Sys2Proof.Machine

/-- The effect of a command on everything but the queue. -/
def exec (i : Instr) (s : State) : Host.Outcome State Fault Refusal :=
  match i with
  | .powerOn => Sys2Proof.Machine.execPowerOn s
  | .reset => Sys2Proof.Machine.execReset s
  | .resetRelease => Sys2Proof.Machine.execResetRelease s
  | .powerOnResetRelease => Sys2Proof.Machine.execPowerOnResetRelease s
  | .oscillatorTick => Sys2Proof.Machine.execOscillatorTick s
  | .calRisingEdge => Sys2Proof.Machine.execCalRisingEdge s
  | .calFallingEdge => Sys2Proof.Machine.execCalFallingEdge s
  | .calWindowExpiry => Sys2Proof.Machine.execCalWindowExpiry s
  | .pendingFrame => Sys2Proof.Machine.execPendingFrame s
  | .init mode selfTest => Sys2Proof.Machine.execInit mode selfTest s
  | .nop => Sys2Proof.Machine.execNop s
  | .status => Sys2Proof.Machine.execStatus s
  | .ack causes => Sys2Proof.Machine.execAck causes s
  | .configSetHorizon value => Sys2Proof.Machine.execConfigSetHorizon value s
  | .configSetJumpLimit value => Sys2Proof.Machine.execConfigSetJumpLimit value s
  | .configSetProbePeriod value => Sys2Proof.Machine.execConfigSetProbePeriod value s
  | .configSetProbeTimeout value => Sys2Proof.Machine.execConfigSetProbeTimeout value s
  | .configSetHoldoverGrowth value => Sys2Proof.Machine.execConfigSetHoldoverGrowth value s
  | .configSetUncertaintyCeiling value => Sys2Proof.Machine.execConfigSetUncertaintyCeiling value s
  | .configSetLaunchSpacing value => Sys2Proof.Machine.execConfigSetLaunchSpacing value s
  | .configSetDriftThreshold value => Sys2Proof.Machine.execConfigSetDriftThreshold value s
  | .configSetAttentionMask value => Sys2Proof.Machine.execConfigSetAttentionMask value s
  | .configGet => Sys2Proof.Machine.execConfigGet s
  | .trunkSet trunk enable rate gran benchDelay => Sys2Proof.Machine.execTrunkSet trunk enable rate gran benchDelay s
  | .trunkGet trunk => Sys2Proof.Machine.execTrunkGet trunk s
  | .calStart e => Sys2Proof.Machine.execCalStart e s
  | .timeRead => Sys2Proof.Machine.execTimeRead s
  | .siteAdmit site trunk address asym trim => Sys2Proof.Machine.execSiteAdmit site trunk address asym trim s
  | .siteAmend site mask asym trim trunk address => Sys2Proof.Machine.execSiteAmend site mask asym trim trunk address s
  | .siteRead site acknowledge => Sys2Proof.Machine.execSiteRead site acknowledge s
  | .siteSuspend site => Sys2Proof.Machine.execSiteSuspend site s
  | .siteResume site => Sys2Proof.Machine.execSiteResume site s
  | .siteRetire site => Sys2Proof.Machine.execSiteRetire site s
  | .zoneDefine zone tolerance yieldMember members => Sys2Proof.Machine.execZoneDefine zone tolerance yieldMember members s
  | .zoneDelete zone => Sys2Proof.Machine.execZoneDelete zone s
  | .zoneRead zone => Sys2Proof.Machine.execZoneRead zone s
  | .planRead first count => Sys2Proof.Machine.execPlanRead first count s
  | .batchPost tag requested payload => Sys2Proof.Machine.execBatchPost tag requested payload s
  | .batchWithdraw tag => Sys2Proof.Machine.execBatchWithdraw tag s
  | .batchReport => Sys2Proof.Machine.execBatchReport s
  | .noticeTake => Sys2Proof.Machine.execNoticeTake s
  | .selfTestEnd siteOk zoneOk planOk batchOk => Sys2Proof.Machine.execSelfTestEnd siteOk zoneOk planOk batchOk s
  | .slotDeadlineExpiry trunk => Sys2Proof.Machine.execSlotDeadlineExpiry trunk s
  | .probeFrameStart trunk => Sys2Proof.Machine.execProbeFrameStart trunk s
  | .batchFrameStart trunk => Sys2Proof.Machine.execBatchFrameStart trunk s
  | .noticeReplyStart trunk => Sys2Proof.Machine.execNoticeReplyStart trunk s
  | .frameEnd trunk => Sys2Proof.Machine.execFrameEnd trunk s
  | .echoTaken trunk bits => Sys2Proof.Machine.execEchoTaken trunk bits s
  | .noticeArrival trunk bits => Sys2Proof.Machine.execNoticeArrival trunk bits s
  | .receiveFrameDiscard trunk bits stopBitAtSpace => Sys2Proof.Machine.execReceiveFrameDiscard trunk bits stopBitAtSpace s
  | .receiveGap trunk markTicks => Sys2Proof.Machine.execReceiveGap trunk markTicks s
  | .probeTimeoutExpiry trunk => Sys2Proof.Machine.execProbeTimeoutExpiry trunk s
  | .benchEchoDelivery trunk => Sys2Proof.Machine.execBenchEchoDelivery trunk s
  | .dispatchDeadlineExpiry => Sys2Proof.Machine.execDispatchDeadlineExpiry s
  | .settleDeadlineExpiry slot => Sys2Proof.Machine.execSettleDeadlineExpiry slot s
  | .solveStart => Sys2Proof.Machine.execSolveStart s
  | .solveCompletion => Sys2Proof.Machine.execSolveCompletion s
  | .commandFrameStart => Sys2Proof.Machine.execCommandFrameStart s
  | .badCommandFrame bits => Sys2Proof.Machine.execBadCommandFrame bits s
  | .delimiterFound trunk line => Sys2Proof.Machine.execDelimiterFound trunk line s

end Sys2Proof.Machine
end

