-- ==== Sys2Proof/Safety.lean ====
section
/-! DEFINITION. What claims about the part are said in: its blocks and what a command leaves of them, the end of a command
frame, the laws the data sheet says every state keeps, and when a step is due (log 5). -/

namespace Sys2Proof.Machine

/-! ### Blocks and frames -/

/-- The blocks of the part as State holds them, and the model's count of free choices. -/
inductive Part where
  | choices
  | resetUnit
  | time
  | sites
  | noticeOrder
  | trunks
  | zones
  | solver
  | slots
  | attention
  | config
  | port
  deriving DecidableEq, Repr

/-- A block is as it was. -/
def Part.same (s t : State) : Part → Prop
  | .choices => t.choices = s.choices
  | .resetUnit => t.resetUnit = s.resetUnit
  | .time => t.time = s.time
  | .sites => t.sites = s.sites
  | .noticeOrder => t.noticeOrder = s.noticeOrder
  | .trunks => t.trunks = s.trunks
  | .zones => t.zones = s.zones
  | .solver => t.solver = s.solver
  | .slots => t.slots = s.slots
  | .attention => t.attention = s.attention
  | .config => t.config = s.config
  | .port => t.port = s.port

/-- The queue and every block but these are as they were. -/
def onlyChanges (changed : List Part) (s t : State) : Prop :=
  t.pending = s.pending ∧ ∀ p : Part, p ∉ changed → p.same s t

/-- Every site record but this one is as it was. -/
def otherSitesSame (i : SiteNo) (s t : State) : Prop := ∀ j, j ≠ i → t.sites.get j = s.sites.get j

/-- Every trunk controller but this one is as it was. -/
def otherTrunksSame (i : TrunkNo) (s t : State) : Prop := ∀ j, j ≠ i → t.trunks.get j = s.trunks.get j

/-- Every zone record but this one is as it was. -/
def otherZonesSame (i : ZoneNo) (s t : State) : Prop := ∀ j, j ≠ i → t.zones.get j = s.zones.get j

/-- Every batch slot but this one is as it was. -/
def otherSlotsSame (i : SlotNo) (s t : State) : Prop := ∀ j, j ≠ i → t.slots.get j = s.slots.get j

/-- Record `i` holds `r`, and every other site record is as it was. -/
def siteBecomes (i : SiteNo) (r : SiteRecord) (s t : State) : Prop := t.sites.get i = r ∧ otherSitesSame i s t

/-- Trunk `i` holds `r`, and every other trunk controller is as it was. -/
def trunkBecomes (i : TrunkNo) (r : Trunk) (s t : State) : Prop := t.trunks.get i = r ∧ otherTrunksSame i s t

/-- Zone `i` holds `r`, and every other zone record is as it was. -/
def zoneBecomes (i : ZoneNo) (r : ZoneRecord) (s t : State) : Prop := t.zones.get i = r ∧ otherZonesSame i s t

/-- Slot `i` holds `r`, and every other batch slot is as it was. -/
def slotBecomes (i : SlotNo) (r : Option Batch) (s t : State) : Prop := t.slots.get i = r ∧ otherSlotsSame i s t

/-- The sites vacated leave the notice order list from wherever they stand, and the others keep their order (R98, R106). -/
def vacatedLeaveOrder (s t : State) : Prop :=
  t.noticeOrder =
    s.noticeOrder.filter fun j => !(decide ((s.sites.get j).state = .retiring) && decide ((t.sites.get j).state = .vacant))

/-- The retire-completion test on a site, with the plan and the batches that the arrival leaves (R35). -/
def passesAfter (s t : State) (j : SiteNo) : Prop :=
  (s.sites.get j).state = .retiring ∧ (∀ p, t.solver.latest = some p → ∃ reason, p.sites.get j = .excluded reason)
    ∧ ∀ k, batchNames j (t.slots.get k) = false

/-- The retire-completion test has been run: the sites that pass are vacated and leave the notice order, and every other record
is as it was (R35, R36). -/
def retireTestRun (s t : State) : Prop :=
  (∀ j, (passesAfter s t j → t.sites.get j = SiteRecord.vacant) ∧ (¬passesAfter s t j → t.sites.get j = s.sites.get j))
    ∧ vacatedLeaveOrder s t

/-- The choice of round-robin (R83): the eligible site of the smallest number above the last site probed, or of the smallest
number of all when there is none above. -/
def State.nextInTurn (s : State) (k : TrunkNo) (i : SiteNo) : Prop :=
  s.eligibleOn k i = true
    ∧ ((∀ l, (s.trunks.get k).lastProbed = some l → l < i)
          ∧ (∀ j, s.eligibleOn k j = true → (∀ l, (s.trunks.get k).lastProbed = some l → l < j) → i ≤ j)
        ∨ ((∃ l, (s.trunks.get k).lastProbed = some l ∧ ∀ j, s.eligibleOn k j = true → j ≤ l)
          ∧ ∀ j, s.eligibleOn k j = true → i ≤ j))

/-- Slot `i` with batch `b` is FREE, and the batches accepted after `b` have moved one place down (R148). -/
def slotFreed (i : SlotNo) (b : Batch) (s t : State) : Prop :=
  t.slots.get i = none ∧ ∀ j, j ≠ i → t.slots.get j =
    (s.slots.get j).map fun c => if b.posting < c.posting then { c with posting := c.posting - 1 } else c

/-- What the dispatch of a batch takes in a state (R155, R156). Under the empty plan it is NO_PLAN with nothing sent, late or
dropped and no hold list. Otherwise it holds the plan's epoch and horizon; for each enabled trunk on which the plan launches a
site a hold list of those sites, ascending, each with the address and raw hold of the plan; the LAUNCH sites on disabled trunks
as dropped; and the result NO_SITES without a hold list, else LAUNCHED or SLIPPED. -/
def takenAtDispatch (slipped : Bool) (s : State) (x : Dispatched) : Prop :=
  x.epoch = s.solver.epoch ∧ x.report.sent = 0 ∧ x.report.late = 0 ∧ x.report.lateList = []
    ∧ (s.solver.latest = none → x.report.result = .noPlan ∧ x.report.dropped = 0 ∧ x.holdLists = [])
    ∧ ∀ p, s.solver.latest = some p → x.planHorizon = p.horizon
      ∧ x.holdLists.map HoldList.trunk = (List.finRange 8).filter (fun k => decide (x.entriesOf k ≠ []))
      ∧ (∀ k e, e ∈ x.entriesOf k ↔ (s.trunks.get k).enable = true ∧ ∃ q, p.sites.get e.site = .launch q ∧ q.trunk = k
          ∧ e = { site := e.site, address := q.address, rawHold := q.rawHold, fixed := none })
      ∧ (∀ k, (x.entriesOf k).Pairwise fun e f => e.site < f.site)
      ∧ x.report.dropped = ((List.finRange 64).filter fun j => match p.sites.get j with
          | .launch q => !(s.trunks.get q.trunk).enable
          | .muted _ | .excluded _ => false).length
      ∧ x.report.result = if x.holdLists = [] then .noSites else if slipped then .slipped else .launched

/-- The state a dispatch leaves its batch in: DONE without a frame, else DISPATCHING with one frame for each hold list (R155,
R156). -/
def phaseAfterDispatch (x : Dispatched) : BatchPhase :=
  if x.holdLists = [] then .done x else .dispatching x x.holdLists.length

/-- These batches' frames have joined, in this order, the queue of each trunk that has a hold list, and the trunks are otherwise
as they were (R79, R156). -/
def framesQueued (order : List SlotNo) (x : Dispatched) (s t : State) : Prop :=
  ∀ k, t.trunks.get k =
    if x.entriesOf k = [] then s.trunks.get k
    else { s.trunks.get k with batchQueue := (s.trunks.get k).batchQueue ++ order }

/-- The stale flag is set, and the solver is otherwise as it was (R123). -/
def markedStale (s t : State) : Prop := t.solver = { s.solver with stale := true }

/-- Every block but the command port and the reset unit holds its reset values; the CAL pin keeps its level (R187, log 2). -/
def blocksCleared (s t : State) : Prop :=
  t.time = TimeBase.cleared s.time.calPin ∧ t.sites = Table.replicate 64 SiteRecord.vacant ∧ t.noticeOrder = []
    ∧ t.trunks = Table.replicate 8 Trunk.cleared ∧ t.zones = Table.replicate 32 ZoneRecord.cleared
    ∧ t.solver = Solver.cleared ∧ t.slots = Table.replicate 8 none ∧ t.attention = Attention.cleared
    ∧ t.config = Params.cleared

/-! ### Causes -/

/-- The nine attention causes in rank order (R167). -/
inductive Cause where
  | fault
  | cal
  | zone
  | suspect
  | holdover
  | step
  | notice
  | report
  | drift
  deriving DecidableEq, Repr

/-- The rank of a cause (R167). -/
def Cause.rank : Cause → Nat
  | .fault => 1
  | .cal => 2
  | .zone => 3
  | .suspect => 4
  | .holdover => 5
  | .step => 6
  | .notice => 7
  | .report => 8
  | .drift => 9

/-- Whether a set marks a cause. -/
def CauseSet.has (p : CauseSet) : Cause → Bool
  | .fault => p.fault
  | .cal => p.cal
  | .zone => p.zone
  | .suspect => p.suspect
  | .holdover => p.holdover
  | .step => p.step
  | .notice => p.notice
  | .report => p.report
  | .drift => p.drift

/-- The top cause of a set: the rank of the highest-ranked cause present, 0 with none (R174). -/
def CauseSet.topIs (p : CauseSet) (n : Nat) : Prop :=
  (n = 0 ∧ ∀ c : Cause, p.has c = false) ∨ ∃ c : Cause, p.has c = true ∧ n = c.rank ∧ ∀ d : Cause, p.has d = true → n ≤ d.rank

/-- What makes a cause present: the source of each of the seven conditions, and of CAL the outcome it carries (R24, R105,
R145, R165, R169). STEP is latched and has no source to compare with. -/
def State.holdsCause (s : State) : Cause → Prop
  | .fault => s.port.op = .fault
  | .cal => s.attention.calOutcome.isSome = true
  | .zone => ∃ q, s.solver.latest = some q ∧ ∃ e ∈ q.zones, e.final = .violated
  | .suspect => ∃ i, (s.sites.get i).state = .suspect
  | .holdover => ∃ i, (s.sites.get i).state = .holdover
  | .step => False
  | .notice => s.noticeOrder ≠ []
  | .report => ∃ i, isDone (s.slots.get i) = true
  | .drift => ∃ i, (s.sites.get i).drift = true

/-- These conditions follow their sources, and the attention unit is otherwise as it was. -/
def conditionsFollow (l : List Cause) (s t : State) : Prop :=
  t.attention.mask = s.attention.mask ∧ t.attention.calOutcome = s.attention.calOutcome
    ∧ ∀ c : Cause, if c ∈ l then (t.attention.present.has c = true ↔ t.holdsCause c)
      else t.attention.present.has c = s.attention.present.has c

/-- CAL is latched with this outcome, and the attention unit is otherwise as it was (R170). -/
def calLatched (o : CalOutcome) (s t : State) : Prop :=
  t.attention = { s.attention with present := { s.attention.present with cal := true }, calOutcome := some o }

/-! ### Command frames -/

/-- A command frame is in progress and the part is READY: every command is taken (R177, R180). -/
def State.ready (s : State) : Prop := s.port.frameOpen = true ∧ s.port.op = .ready

/-- The command frame has ended with this answer stored; the rest of the port is as it was (R177, R179). -/
def answered (a : Answer) (s t : State) : Prop :=
  t.port = { s.port with response := some a, frameOpen := false, rdy := false, selRise := some s.time.now }

/-- The command answers `t` as the next state, and the queue and every block but these are as they were. -/
def completes (c : Instr) (changed : List Part) (s t : State) : Prop := exec c s = .next t ∧ onlyChanges changed s t

/-- The command leaves the state as it is. -/
def hasNoEffect (c : Instr) (s : State) : Prop := exec c s = .next s

/-- The host command is answered, and beside the port it changes at most these blocks. -/
def answers (c : Instr) (a : Answer) (changed : List Part) (s t : State) : Prop :=
  completes c (.port :: changed) s t ∧ answered a s t

/-- The host command is answered and changes nothing but the port (section 10.4). -/
def answersOnly (c : Instr) (a : Answer) (s : State) : Prop := ∃ t, answers c a [] s t

/-- The host command is refused with this code and changes nothing (section 10.4). -/
def declined (c : Instr) (code : ResultCode) (s : State) : Prop := answersOnly c (bare code) s

/-- The host command is answered OK with this data and changes nothing. -/
def reads (c : Instr) (data : List Byte) (s : State) : Prop := answersOnly c { code := .ok, data := data } s

/-- The host commands by the operating states that take them (R180); none for an event. A bad frame reaches no block. -/
def hostCommand : Instr → Option CommandClass
  | .init _ _ => some .initial
  | .nop | .status => some .always
  | .ack _ | .configSetHorizon _ | .configSetJumpLimit _ | .configSetProbePeriod _ | .configSetProbeTimeout _
  | .configSetHoldoverGrowth _ | .configSetUncertaintyCeiling _ | .configSetLaunchSpacing _ | .configSetDriftThreshold _
  | .configSetAttentionMask _ | .configGet | .trunkSet _ _ _ _ _ | .trunkGet _ | .calStart _ | .timeRead
  | .siteAdmit _ _ _ _ _ | .siteAmend _ _ _ _ _ _ | .siteRead _ _ | .siteSuspend _ | .siteResume _ | .siteRetire _
  | .zoneDefine _ _ _ _ | .zoneDelete _ | .zoneRead _ | .planRead _ _ | .batchPost _ _ _ | .batchWithdraw _ | .batchReport
  | .noticeTake => some .readyOnly
  | .powerOn | .reset | .resetRelease | .powerOnResetRelease | .oscillatorTick | .calRisingEdge | .calFallingEdge
  | .calWindowExpiry | .pendingFrame | .selfTestEnd _ _ _ _ | .slotDeadlineExpiry _ | .probeFrameStart _
  | .batchFrameStart _ | .noticeReplyStart _ | .frameEnd _ | .echoTaken _ _ | .noticeArrival _ _
  | .receiveFrameDiscard _ _ _ | .receiveGap _ _ | .probeTimeoutExpiry _ | .benchEchoDelivery _ | .dispatchDeadlineExpiry
  | .settleDeadlineExpiry _ | .solveStart | .solveCompletion | .commandFrameStart | .badCommandFrame _
  | .delimiterFound _ _ => none

/-- The commands that give every block, or every store, its reset values (R187–R189). -/
def resets : Instr → Bool
  | .powerOn | .reset | .init _ _ | .selfTestEnd _ _ _ _ => true
  | .resetRelease | .powerOnResetRelease | .oscillatorTick | .calRisingEdge | .calFallingEdge | .calWindowExpiry
  | .pendingFrame | .nop | .status | .ack _ | .configSetHorizon _ | .configSetJumpLimit _ | .configSetProbePeriod _
  | .configSetProbeTimeout _ | .configSetHoldoverGrowth _ | .configSetUncertaintyCeiling _ | .configSetLaunchSpacing _
  | .configSetDriftThreshold _ | .configSetAttentionMask _ | .configGet | .trunkSet _ _ _ _ _ | .trunkGet _ | .calStart _
  | .timeRead | .siteAdmit _ _ _ _ _ | .siteAmend _ _ _ _ _ _ | .siteRead _ _ | .siteSuspend _ | .siteResume _
  | .siteRetire _ | .zoneDefine _ _ _ _ | .zoneDelete _ | .zoneRead _ | .planRead _ _ | .batchPost _ _ _
  | .batchWithdraw _ | .batchReport | .noticeTake | .slotDeadlineExpiry _ | .probeFrameStart _ | .batchFrameStart _
  | .noticeReplyStart _ | .frameEnd _ | .echoTaken _ _ | .noticeArrival _ _ | .receiveFrameDiscard _ _ _ | .receiveGap _ _
  | .probeTimeoutExpiry _ | .benchEchoDelivery _ | .dispatchDeadlineExpiry | .settleDeadlineExpiry _ | .solveStart
  | .solveCompletion | .commandFrameStart | .badCommandFrame _ | .delimiterFound _ _ => false

/-- The blocks each command may change, as 95_what_each_step_holds.md and the chapters give them. -/
def blocksOf : Instr → List Part
  | .powerOn | .reset =>
    [.resetUnit, .time, .sites, .noticeOrder, .trunks, .zones, .solver, .slots, .attention, .config, .port]
  | .init _ _ => [.time, .sites, .noticeOrder, .trunks, .zones, .solver, .slots, .attention, .config, .port]
  | .resetRelease | .powerOnResetRelease => [.resetUnit, .port]
  | .oscillatorTick => [.resetUnit, .time, .port]
  | .calRisingEdge => [.time]
  | .calFallingEdge => [.time, .trunks, .solver, .attention]
  | .calWindowExpiry => [.time, .solver, .attention]
  | .calStart _ => [.time, .solver, .port]
  | .pendingFrame | .commandFrameStart | .badCommandFrame _ | .nop | .status | .configGet | .timeRead | .trunkGet _
  | .zoneRead _ | .planRead _ _ => [.port]
  | .ack _ | .configSetAttentionMask _ => [.attention, .port]
  | .configSetHorizon _ => [.trunks, .solver, .slots, .attention, .config, .port]
  | .configSetJumpLimit _ | .configSetProbePeriod _ | .configSetProbeTimeout _ | .configSetLaunchSpacing _ =>
    [.config, .port]
  | .configSetHoldoverGrowth _ | .configSetUncertaintyCeiling _ => [.sites, .solver, .attention, .config, .port]
  | .configSetDriftThreshold _ => [.sites, .attention, .config, .port]
  | .trunkSet _ _ _ _ _ => [.sites, .noticeOrder, .trunks, .solver, .slots, .attention, .port]
  | .siteAdmit _ _ _ _ _ | .siteAmend _ _ _ _ _ _ | .siteSuspend _ | .siteResume _ => [.sites, .solver, .attention, .port]
  | .siteRead _ _ => [.sites, .attention, .port]
  | .siteRetire _ => [.sites, .zones, .solver, .attention, .port]
  | .noticeTake => [.sites, .noticeOrder, .attention, .port]
  | .zoneDefine _ _ _ _ | .zoneDelete _ => [.zones, .solver, .port]
  | .batchPost _ _ _ => [.trunks, .slots, .attention, .port]
  | .batchWithdraw _ | .batchReport => [.slots, .attention, .port]
  | .selfTestEnd _ _ _ _ => [.sites, .noticeOrder, .zones, .solver, .slots, .attention, .port]
  | .slotDeadlineExpiry _ | .probeFrameStart _ | .noticeReplyStart _ | .receiveFrameDiscard _ _ _ | .receiveGap _ _
  | .benchEchoDelivery _ | .delimiterFound _ _ => [.trunks]
  | .batchFrameStart _ | .dispatchDeadlineExpiry => [.trunks, .slots, .attention]
  | .frameEnd _ => [.sites, .noticeOrder, .trunks, .solver, .slots, .attention]
  | .echoTaken _ _ | .probeTimeoutExpiry _ => [.sites, .trunks, .solver, .attention]
  | .noticeArrival _ _ => [.sites, .noticeOrder, .trunks, .solver, .attention]
  | .settleDeadlineExpiry _ => [.sites, .noticeOrder, .solver, .slots, .attention]
  | .solveCompletion => [.choices, .sites, .noticeOrder, .solver, .attention]
  | .solveStart => [.solver]

/-! ### Laws of the time base and the parameters -/

/-- The law of F and of the fraction (R2, R3), with what a measurement in progress must hold for it (R8). -/
def TimeBase.lawful (t : TimeBase) : Prop :=
  4112063 ≤ t.f ∧ t.f ≤ 4279902 ∧ t.fraction < 16777216 ∧ (t.cal.answer = false → t.f = 4194304)
    ∧ ∀ m, t.cal = .measuring m → 100000 ≤ m.e ∧ m.e ≤ 10000000

/-- Every parameter lies in its range, and Q is below P (R90, R182; section 10.5). -/
def Params.lawful (p : Params) : Prop :=
  (10000 ≤ p.horizon ∧ p.horizon ≤ 16000000) ∧ (10 ≤ p.jumpLimit ∧ p.jumpLimit ≤ 100000)
    ∧ (10000 ≤ p.probePeriod ∧ p.probePeriod ≤ 10000000) ∧ (1000 ≤ p.probeTimeout ∧ p.probeTimeout ≤ 9999999)
    ∧ p.growth ≤ 255 ∧ (10 ≤ p.ceiling ∧ p.ceiling ≤ 65535) ∧ p.spacing ≤ 10000000 ∧ p.driftThreshold ≤ 1000000
    ∧ p.probeTimeout < p.probePeriod

/-! ### Laws of the site table -/

/-- A list of samples within its capacity, each in the range of d (R16, R45). -/
def samplesInRange (capacity : Nat) (l : List Nat) : Prop := l.length ≤ capacity ∧ ∀ y ∈ l, y ≤ 16777215

/-- The fields of a phase in range, with the bound on m in ALIGNED (R16, R59). -/
def SitePhase.inRange (m : Nat) : SitePhase → Prop
  | .probing l => samplesInRange 4 l
  | .suspect l => samplesInRange 4 l
  | .aligned l => samplesInRange 3 l ∧ m ≤ 2
  | .holdover l h => samplesInRange 3 l ∧ h ≤ 65535
  | .vacant | .suspended _ | .retiring => True

/-- A link in range (R16, R26). -/
def Link.inRange (l : Link) : Prop :=
  1 ≤ l.address ∧ l.address ≤ 30 ∧ -32768 ≤ l.asym ∧ l.asym ≤ 32767 ∧ -100000 ≤ l.trim ∧ l.trim ≤ 100000

/-- A record's fields in the ranges of R16, present in the states that have them; a VACANT record holds reset values (R41);
d holds an acquired value wherever a site is tracked (R45, R48). -/
def SiteRecord.inRange (r : SiteRecord) : Prop :=
  r.phase.inRange r.m ∧ r.m ≤ 3 ∧ r.s ≤ 65535 ∧ (∀ e ∈ r.est, e.d ≤ 16777215 ∧ e.reported ≤ 16777215)
    ∧ (∀ l ∈ r.link, l.inRange) ∧ (r.state = .vacant → r = SiteRecord.vacant) ∧ (r.state ≠ .vacant → r.link.isSome = true)
    ∧ (r.state = .aligned ∨ r.state = .holdover ∨ r.state = .suspect → r.est.isSome = true)

/-- Every site record is in range (R16, R45, R59). -/
def sitesInRange (s : State) : Prop := ∀ i, (s.sites.get i).inRange

/-- Every site in ALIGNED or HOLDOVER has u at most U (R59). -/
def uncertaintyBounded (s : State) : Prop := ∀ i, ∀ u ∈ (s.sites.get i).u s.config.growth, u ≤ s.config.ceiling

/-- Drift pending is yes exactly when the site was ever aligned, D is not 0, and d differs from the reported delay by more
than D (R39). -/
def driftLaw (s : State) : Prop :=
  ∀ i, (s.sites.get i).drift = true ↔
    ∃ e, (s.sites.get i).est = some e ∧ s.config.driftThreshold ≠ 0
      ∧ s.config.driftThreshold < ((e.d : Int) - e.reported).natAbs

/-- No two sites that are not VACANT share trunk and address (R18). -/
def placesDistinct (s : State) : Prop :=
  ∀ i j t a, (s.sites.get i).state ≠ .vacant → (s.sites.get j).state ≠ .vacant → (s.sites.get i).isAt t a = true →
    (s.sites.get j).isAt t a = true → i = j

/-- The notice order list holds exactly the sites whose notice slot is occupied, each once (R98); a VACANT site has no
notice (R36). -/
def noticeLaw (s : State) : Prop :=
  s.noticeOrder.Nodup ∧ (∀ i, i ∈ s.noticeOrder ↔ (s.sites.get i).notice.isSome = true)
    ∧ ∀ i, (s.sites.get i).state = .vacant → (s.sites.get i).notice = none

/-- A VACANT site is EXCLUDED in the latest plan, and in the hold list of no DISPATCHING or IN_FLIGHT batch (R36, R130). -/
def vacantLaw (s : State) : Prop :=
  ∀ i, (s.sites.get i).state = .vacant →
    planExcludes s.solver.latest i = true ∧ ∀ k, batchNames i (s.slots.get k) = false

/-! ### Laws of zones, slots and causes -/

/-- A zone body's members are distinct and at most six, its tolerance is 1..65,535, and its yield member is one of the members
(R108). -/
def ZoneBody.lawful (b : ZoneBody) : Prop :=
  (b.members.map Prod.fst).Nodup ∧ b.members.length ≤ 6 ∧ (1 ≤ b.tolerance ∧ b.tolerance ≤ 65535)
    ∧ (∀ m ∈ b.members, m.2 ≤ 65535) ∧ ∀ y ∈ b.yieldMember, y ∈ b.members.map Prod.fst

/-- The law of the zone table (R108): every defined zone is lawful, and its members are neither VACANT nor RETIRING. -/
def zoneLaw (s : State) : Prop :=
  ∀ z, ∀ b ∈ (s.zones.get z).body,
    b.lawful ∧ ∀ m ∈ b.members, (s.sites.get m.1).state ≠ .vacant ∧ (s.sites.get m.1).state ≠ .retiring

/-- The law of the batch slots (R147, R148): the tags of occupied slots are distinct, and their posting numbers are distinct
and below their count. -/
def slotLaw (s : State) : Prop :=
  ∀ i, ∀ b ∈ s.slots.get i,
    b.posting < s.slots.count Option.isSome
      ∧ ∀ j, ∀ c ∈ s.slots.get j, (b.tag = c.tag → i = j) ∧ (b.posting = c.posting → i = j)

/-- Every condition and CAL are present exactly while their sources hold them (R24, R105, R145, R165, R169, R170). -/
def causesAgree (s : State) : Prop :=
  ∀ c : Cause, c ≠ .step → (s.attention.present.has c = true ↔ s.holdsCause c)

/-- Outside READY the blocks hold their reset values, but for the raw count, the fraction and now, and the FAULT condition
(R169, R180, R189); while the part is held it is UNINIT with no frame in progress (R187). -/
def quietOutsideReady (s : State) : Prop :=
  (s.held = true → s.port.op = .uninit ∧ s.port.frameOpen = false) ∧
  (s.port.op ≠ .ready →
    s.sites = Table.replicate 64 SiteRecord.vacant ∧ s.noticeOrder = [] ∧ s.trunks = Table.replicate 8 Trunk.cleared
      ∧ s.zones = Table.replicate 32 ZoneRecord.cleared ∧ s.solver = Solver.cleared ∧ s.slots = Table.replicate 8 none
      ∧ s.config = Params.cleared ∧ s.time.cal = .uncalibrated ∧ s.time.last = none ∧ s.time.f = 4194304
      ∧ s.attention =
        { Attention.cleared with present := { CauseSet.none with fault := decide (s.port.op = .fault) } })

/-- What a snapshot reads but the granularities, whose change makes no plan mark (R70, R126). -/
def planInputs (s : State) : Snapshot := { s.snapshot with grans := Table.replicate 8 .du1 }

/-! ### What a solve says of a zone -/

/-- A zone's verdict and spread over its members that the snapshot shows eligible and that are kept (R135, R136, R138, R140).
Around each arrival, launch offset + p, lies the member's range from a − u to a + u. Below two members, or uncalibrated, the
verdict is INDETERMINATE without a spread; otherwise the spread is the largest a + u minus the smallest a − u, and the verdict
SATISFIED when that is at most the tolerance. -/
def zoneJudged (n : Snapshot) (kept : SiteNo → Bool) (b : ZoneBody) (verdict : Verdict) (spread : Option Nat) : Prop :=
  ∀ ranges : List (Int × Int),
    ranges = (b.members.filterMap fun m =>
      match n.sites.get m.1, kept m.1 with
      | .eligible e, true =>
        some ((launchOffset n.horizon (n.grans.get e.trunk) e : Int) + m.2 - e.u,
          (launchOffset n.horizon (n.grans.get e.trunk) e : Int) + m.2 + e.u)
      | _, _ => none) →
    (n.calibrated = false ∨ ranges.length < 2 → verdict = .indeterminate ∧ spread = none)
    ∧ (n.calibrated = true → 2 ≤ ranges.length → ∃ w : Nat, spread = some w
        ∧ (∀ x ∈ ranges, ∀ y ∈ ranges, y.2 - x.1 ≤ w) ∧ (∃ x ∈ ranges, ∃ y ∈ ranges, y.2 - x.1 = w)
        ∧ verdict = if w ≤ b.tolerance then .satisfied else .violated)

/-- The zone entries of a plan (R141): for each zone of the snapshot, in order, its number, its revision, the first-pass verdict
over all eligible members, and the final verdict and spread over those kept, which are not MUTED. -/
def zoneEntriesOf (n : Snapshot) (kept : SiteNo → Bool) (entries : List ZoneEntry) : Prop :=
  List.Forall₂ (fun (z : SnapZone) (e : ZoneEntry) => e.zone = z.zone ∧ e.revision = z.revision
    ∧ (∃ w, zoneJudged n (fun _ => true) z.body e.firstPass w) ∧ zoneJudged n kept z.body e.final e.spread) n.zones entries

/-! ### What the framer discards -/

/-- The bytes after the delimiter are the beginning of an ECHO or of a NOTICE, with more to come (R76, R186). -/
def stillCollecting (bytes : List Byte) : Prop :=
  bytes = [] ∨ bytes = [5] ∨ bytes = [6] ∨ (∃ rest, bytes = 5 :: 2 :: rest ∧ rest.length < 6)
    ∨ ∃ rest, bytes = 6 :: 3 :: rest ∧ rest.length < 7

/-- The framer discards the frame at the last of these bytes (R77): its stop bit reads space, or it shows a bad length, a bad
type, or a check that differs from the one computed. -/
def framerDiscards (bytes : List Byte) (stopBitAtSpace : Bool) : Prop :=
  ∃ before last, bytes = before ++ [last] ∧ stillCollecting before
    ∧ (stopBitAtSpace = true
      ∨ (before = [] ∧ last ≠ 5 ∧ last ≠ 6)
      ∨ (before = [5] ∧ last ≠ 2) ∨ (before = [6] ∧ last ≠ 3)
      ∨ ∃ body c, before = body ++ [c] ∧ ((∃ rest, body = 5 :: 2 :: rest ∧ rest.length = 4)
          ∨ ∃ rest, body = 6 :: 3 :: rest ∧ rest.length = 5) ∧ c ++ last ≠ crc16 body)

/-! ### When a step is due -/

/-- Something the data sheet says happens at this instant, or "at once", has not been taken yet: a deadline that now has
reached (R5), a frame whose last stop bit has left (R74, R79), an idle transmitter with a frame waiting (R79), a solve to start
(R125), or a solve, a self-test or a bench echo at its latest instant (R127, R189, R190). The sender of the queue puts the row
due before the next OSCILLATOR_TICK; the model does not force it (log 5). -/
def State.stepDue (s : State) : Bool :=
  let now := s.time.now
  (match s.time.cal with
    | .measuring m => decide (m.deadline = now)
    | .uncalibrated | .calibrated => false)
  || (s.trunks.any fun tr =>
      decide (tr.timer = .running now)
      || (match tr.outstanding with
        | some o => decide (o.deadline = now)
        | none => false)
      || (match tr.tx with
        | some x => lineTimeOver tr.rate x.frame.length x.startRaw s.time.rawCount
        | none => false)
      || (match tr.bench.delivering with
        | some d => lineTimeOver tr.rate 10 d.startRaw s.time.rawCount
        | none => false)
      || (tr.tx.isNone && (!tr.batchQueue.isEmpty || !tr.replyQueue.isEmpty || decide (tr.timer.toNat = 2)))
      || (tr.bench.delivering.isNone
        && (match tr.bench.undelivered with
          | e :: _ => !isLater e.due now
          | [] => false)))
  || (s.slots.any fun o =>
      match o with
      | some b =>
        match b.phase with
        | .pending => decide (b.dispatch = now)
        | .inFlight _ settle => decide (settle = now)
        | .dispatching _ _ | .done _ => false
      | none => false)
  || s.solver.mayStart
  || (match s.solver.running with
    | some v => decide (solveBound ≤ interval v.start now)
    | none => false)
  || (decide (s.port.op = .testing) && decide (selfTestBound ≤ now.toNat))

/-- A command that is timely in a state: the clock ticks only while no step is due (log 5). -/
def timely (c : Instr) (s : State) : Prop := c = .oscillatorTick → s.stepDue = false

end Sys2Proof.Machine
end

