-- ==== Sys2Proof/WellFormed.lean ====
section
/-! DEFINITION. Which operands a command can carry: a ZONE.DEFINE or BATCH.POST must fit the 200 parameter bytes of a frame
(R176), and the received bits of a trunk or port event must be such as that event is. -/

namespace Sys2Proof

open Machine (judge hunt discardsAt frameBytes? openFrameBytes? lineBytes)

/-- The operands can stand behind this command. -/
def Instr.WellFormed : Instr → Bool
  | .zoneDefine _ _ _ members => decide (5 + 3 * members.length ≤ 200)
  | .batchPost _ _ payload => decide (6 + payload.length ≤ 200)
  | .badCommandFrame bits =>
    match parseBits bits with
    | .ok _ => false
    | .error _ => true
  | .echoTaken _ bits =>
    match (frameBytes? bits).map judge with
    | some (.echo _ _ _) => true
    | _ => false
  | .noticeArrival _ bits =>
    match (frameBytes? bits).map judge with
    | some (.notice _ _ _ _) => true
    | _ => false
  | .receiveFrameDiscard _ bits stop => (openFrameBytes? bits).any fun bytes => discardsAt bytes stop
  | .receiveGap _ markTicks => decide (0 < markTicks)
  | .delimiterFound _ line => hunt false ((lineBytes 0 line).map fun b => b.value)
  | .powerOn | .reset | .resetRelease | .powerOnResetRelease | .oscillatorTick | .calRisingEdge | .calFallingEdge
  | .calWindowExpiry | .pendingFrame | .init _ _ | .nop | .status | .ack _ | .configSetHorizon _ | .configSetJumpLimit _
  | .configSetProbePeriod _ | .configSetProbeTimeout _ | .configSetHoldoverGrowth _ | .configSetUncertaintyCeiling _
  | .configSetLaunchSpacing _ | .configSetDriftThreshold _ | .configSetAttentionMask _ | .configGet
  | .trunkSet _ _ _ _ _ | .trunkGet _ | .calStart _ | .timeRead | .siteAdmit _ _ _ _ _ | .siteAmend _ _ _ _ _ _
  | .siteRead _ _ | .siteSuspend _ | .siteResume _ | .siteRetire _ | .zoneDelete _ | .zoneRead _ | .planRead _ _
  | .batchWithdraw _ | .batchReport | .noticeTake | .selfTestEnd _ _ _ _ | .slotDeadlineExpiry _ | .probeFrameStart _
  | .batchFrameStart _ | .noticeReplyStart _ | .frameEnd _ | .probeTimeoutExpiry _ | .benchEchoDelivery _
  | .dispatchDeadlineExpiry | .settleDeadlineExpiry _ | .solveStart | .solveCompletion | .commandFrameStart => true

end Sys2Proof
end

