-- ==== Sys2Proof/Certificates/Slice0/Obligations.lean ====
section
/-! DEFINITION. The statements for the provers, in the order of the data sheet's chapters: the queue and the frames, what every
command does and leaves alone, the formulas of the tracker and of the solve, and the laws that every step keeps. -/

open Sys2Proof Sys2Proof.Machine

/-! ### The queue, the frame and the blocks -/

/-- A step takes the command at the front of the queue and runs exec on the state with the queue's rest; with an empty queue
the part idles, which is the model's choice (log 3). -/
def Obligations.StepTakesFrontCommand : Prop :=
  (∀ (c : Instr) (rest : List Instr) (s : State), s.pending = c :: rest → step s = exec c { s with pending := rest })
    ∧ ∀ s : State, s.pending = [] → step s = .next s

/-- Every command, in every state and with every operand, answers a next state, and changes no block but those the chapters
and 95_what_each_step_holds.md give it. That a row off its occasion answers the state as it is (log 4), that every command keeps
the queue (log 3), and the count of free choices (log 39) are the model's own. -/
def Obligations.EachCommandChangesOnlyItsBlocks : Prop :=
  ∀ (c : Instr) (s : State), ∃ t, completes c (blocksOf c) s t

/-- The bytes that the bits on SDI give, most significant bit first, the bits of an incomplete byte ignored; the four tests of
R178 on them in their order, with the 24 codes and the parameter lengths of the catalogue of section 10.3; and some frames
written out from it. That a CONFIG.SET of an unknown parameter is told apart here is the model's choice (log 12). -/
def Obligations.CommandFramesSpellCommands : Prop :=
  (∀ (bytes : List Byte) (odd : List Bool), odd.length < 8 →
      sdiBytes ((bytes.flatMap fun b => (List.range 8).map fun i => b.getMsbD i) ++ odd) = bytes)
    ∧ (∀ bytes : List Byte, bytes.length < 2 → parseFrame bytes = .error .badLength)
    ∧ (∀ (fixed : List (Byte × Nat)),
      fixed = [(0x01, 2), (0x02, 0), (0x03, 0), (0x04, 2), (0x10, 5), (0x11, 0), (0x18, 9), (0x19, 1), (0x20, 3), (0x21, 0),
        (0x30, 8), (0x31, 9), (0x32, 2), (0x33, 1), (0x34, 1), (0x35, 1), (0x41, 1), (0x42, 1), (0x48, 2), (0x51, 1), (0x52, 0),
        (0x58, 0)] →
      ∀ (code len : Byte) (rest : List Byte),
        (code ∉ fixed.map Prod.fst → code ≠ 0x40 → code ≠ 0x50 → parseFrame (code :: len :: rest) = .error .badCommand)
        ∧ (code ∈ fixed.map Prod.fst ∨ code = 0x40 ∨ code = 0x50 →
          (200 < len.toNat ∨ rest.length < len.toNat → parseFrame (code :: len :: rest) = .error .badLength)
          ∧ (len.toNat ≤ 200 → len.toNat ≤ rest.length → ∀ required : Prop,
            (required ↔ (code, len.toNat) ∈ fixed
              ∨ (code = 0x40 ∧ 5 ≤ len.toNat ∧ len.toNat = 5 + 3 * (rest.getD 4 0).toNat)
              ∨ (code = 0x50 ∧ 6 ≤ len.toNat ∧ len.toNat = 6 + (rest.getD 5 0).toNat)) →
            (¬required → parseFrame (code :: len :: rest) = .error .badLength)
            ∧ (required → (∃ c, parseFrame (code :: len :: rest) = .ok c)
              ∨ (code = 0x10 ∧ ((rest.getD 0 0).toNat = 0 ∨ 9 < (rest.getD 0 0).toNat)
                ∧ parseFrame (code :: len :: rest) = .error .unknownParameter)))))
    ∧ parseFrame [0x01, 0x02, 0x00, 0x01] = .ok (.init 0 1)
    ∧ parseFrame [0x02, 0x00, 0xFF] = .ok .nop
    ∧ parseFrame [0x10, 0x05, 0x02, 0x00, 0x00, 0x01, 0xF4] = .ok (.configSetJumpLimit 500)
    ∧ parseFrame [0x10, 0x05, 0x0A, 0x00, 0x00, 0x00, 0x00] = .error .unknownParameter
    ∧ parseFrame [0x20, 0x03, 0x98, 0x96, 0x80] = .ok (.calStart 10000000)
    ∧ parseFrame [0x20, 0x02, 0x98, 0x96] = .error .badLength
    ∧ parseFrame [0x30, 0x08, 0x03, 0x01, 0x07, 0xFF, 0xFE, 0x00, 0x00, 0x0A]
        = .ok (.siteAdmit 3 1 7 0xFFFE 10)
    ∧ parseFrame [0x40, 0x0B, 0x04, 0x00, 0x64, 0x0C, 0x02, 0x03, 0x00, 0x01, 0x0C, 0x01, 0x00]
        = .ok (.zoneDefine 4 100 12 [(3, 1), (12, 256)])
    ∧ parseFrame [0x50, 0x07, 0x05, 0x00, 0x0F, 0x42, 0x40, 0x01, 0xAA] = .ok (.batchPost 5 1000000 [0xAA])
    ∧ parseFrame [0x50, 0x07, 0x05, 0x00, 0x0F, 0x42, 0x40, 0x02, 0xAA] = .error .badLength

/-- Every well-formed host command is the command that its encoded frame spells, whatever bytes follow the frame's own, and so
it is from the bits on SDI, most significant bit first, whatever bits of an incomplete byte follow them. -/
def Obligations.CommandFrameRoundTrip : Prop :=
  ∀ (c : Instr) (bytes extra : List Byte) (odd : List Bool), c.WellFormed = true → encodeFrame c = some bytes →
    parseFrame (bytes ++ extra) = .ok c
      ∧ (odd.length < 8 →
        parseBits (((bytes ++ extra).flatMap fun b => (List.range 8).map fun i => b.getMsbD i) ++ odd) = .ok c)

/-- The bytes of the five trunk frames with their check, written out, the check as the register of R75 bit by bit; the framer
takes an ECHO or a NOTICE exactly from the bytes of its contents. The ten bits of a byte on the line, in either direction: the
bytes that the bits on RXD give, each with the rest at mark before it and its stop bit, and when they are those of a frame in
progress, every stop bit at mark and no gap among them, with or without the last stop bit. The level of TXD: mark with nothing
in transmission and in BENCH mode, else the bit whose time it is, and mark after the last. That a bit's time is counted in whole
ticks from the frame's start (log 7), and a rest between two received bytes in whole bits (log 31), is the model's choice. -/
def Obligations.TakenFramesAreTheirBytes : Prop :=
  (∀ bytes : List Byte, crc16 bytes =
      (bytes.flatMap fun b => (List.range 8).map fun i => b.getMsbD i).foldl
        (fun (r : BitVec 16) (bit : Bool) => if r.msb = bit then r <<< 1 else (r <<< 1) ^^^ 0x1021#16) 0xFFFF#16)
    ∧ (∀ body : List Byte, sealFrame body
        = [0xC5, 0x3A] ++ body ++ [(crc16 body).extractLsb' 8 8, (crc16 body).extractLsb' 0 8])
    ∧ (∀ (address : Nat) (seq : Byte), probeFrame address seq = sealFrame [3, 1, BitVec.ofNat 8 address, seq])
    ∧ (∀ (address seq : Byte) (t : BitVec 16), [0xC5, 0x3A] ++ echoBytes address seq t
        = sealFrame [5, 2, address, seq, t.extractLsb' 8 8, t.extractLsb' 0 8])
    ∧ (∀ (address kind seq : Byte) (detail : BitVec 16), [0xC5, 0x3A] ++ noticeBytes address kind detail seq
        = sealFrame [6, 3, address, kind, detail.extractLsb' 8 8, detail.extractLsb' 0 8, seq])
    ∧ (∀ address seq : Byte,
        replyFrame { address := address, seq := seq, decision := .taken } = sealFrame [4, 4, address, seq, 0]
          ∧ replyFrame { address := address, seq := seq, decision := .busy } = sealFrame [4, 4, address, seq, 1]
          ∧ replyFrame { address := address, seq := seq, decision := .unknown } = sealFrame [4, 4, address, seq, 2])
    ∧ (∀ (tag : Byte) (entries : List (HoldEntry × FixedHold)) (payload : List Byte),
        (∀ e ∈ entries, e.1.fixed = some e.2) →
        batchFrame tag (entries.map Prod.fst) payload = sealFrame
          ([BitVec.ofNat 8 (4 + 4 * entries.length), 5, tag, BitVec.ofNat 8 entries.length]
            ++ (entries.flatMap fun e =>
              [BitVec.ofNat 8 e.1.address, BitVec.ofNat 8 (e.2.hold / 65536), BitVec.ofNat 8 (e.2.hold / 256),
                BitVec.ofNat 8 e.2.hold])
            ++ [BitVec.ofNat 8 payload.length] ++ payload))
    ∧ (∀ b : Byte, byteBits b = [false, b.getLsbD 0, b.getLsbD 1, b.getLsbD 2, b.getLsbD 3, b.getLsbD 4, b.getLsbD 5,
        b.getLsbD 6, b.getLsbD 7, true])
    ∧ (∀ (rest : Nat) (b : Byte) (stop : Bool) (ticks : Nat → Nat) (line : List (Bool × Nat)),
        lineBytes rest ((true, ticks 0) :: line) = lineBytes (rest + 1) line
          ∧ lineBytes rest ([(false, ticks 0), (b.getLsbD 0, ticks 1), (b.getLsbD 1, ticks 2), (b.getLsbD 2, ticks 3),
              (b.getLsbD 3, ticks 4), (b.getLsbD 4, ticks 5), (b.getLsbD 5, ticks 6), (b.getLsbD 6, ticks 7),
              (b.getLsbD 7, ticks 8), (stop, ticks 9)] ++ line)
            = { rest := rest, start := ticks 0, value := b, stop := some stop } :: lineBytes 0 line
          ∧ lineBytes rest [(false, ticks 0), (b.getLsbD 0, ticks 1), (b.getLsbD 1, ticks 2), (b.getLsbD 2, ticks 3),
              (b.getLsbD 3, ticks 4), (b.getLsbD 4, ticks 5), (b.getLsbD 5, ticks 6), (b.getLsbD 6, ticks 7),
              (b.getLsbD 7, ticks 8)]
            = [{ rest := rest, start := ticks 0, value := b, stop := none }]
          ∧ (line.length < 8 → lineBytes rest ((false, ticks 0) :: line) = [] ∧ lineBytes rest [] = []))
    ∧ (∀ (bits : List Bool) (seen : List LineByte) (bytes : List Byte), seen = lineBytes 0 (bits.map fun b => (b, 0)) →
        (frameBytes? bits = some bytes ↔
          (∀ x ∈ seen, x.stop = some true ∧ x.rest ≤ 20) ∧ bytes = seen.map LineByte.value)
        ∧ (openFrameBytes? bits = some bytes ↔ ∃ before x, seen = before ++ [x] ∧ x.stop = none ∧ x.rest ≤ 20
          ∧ (∀ y ∈ before, y.stop = some true ∧ y.rest ≤ 20) ∧ bytes = seen.map LineByte.value))
    ∧ (∀ (k : TrunkNo) (s : State), s.port.mode = .bench ∨ (s.trunks.get k).tx = none → s.txd k = true)
    ∧ (∀ (k : TrunkNo) (s : State) (x : Transmission) (j : Nat), s.port.mode = .align → (s.trunks.get k).tx = some x →
        j * 40000000 ≤ (s.time.rawCount - x.startRaw).toNat * (s.trunks.get k).rate.bps →
        (s.time.rawCount - x.startRaw).toNat * (s.trunks.get k).rate.bps < (j + 1) * 40000000 →
        s.txd k = if j < 10 * x.frame.length then (byteBits (x.frame.getD (j / 10) 0)).getD (j % 10) true else true)
    ∧ (∀ (bytes : List Byte) (address seq : Byte) (turnaround : BitVec 16),
      judge bytes = .echo address seq turnaround ↔ bytes = echoBytes address seq turnaround)
    ∧ ∀ (bytes : List Byte) (address kind seq : Byte) (detail : BitVec 16),
      judge bytes = .notice address kind detail seq ↔ bytes = noticeBytes address kind detail seq

/-! ### Reset, INIT and the self-test -/

/-- Power-on and the RESET pin clear every block and hold the port; the part is free, and RDY high, once both are released. The
pin levels, the counter of power-on ticks, that a release off its occasion has no effect, and that the queue and the count of
free choices are kept are the model's choices (logs 2, 3, 4, 24, 39). -/
def Obligations.ResetLinesClearAndRelease : Prop :=
  ∀ s : State,
    (∃ t, exec .powerOn s = .next t ∧ blocksCleared s t ∧ t.port = CommandPort.cleared ∧ t.pending = s.pending
      ∧ t.choices = s.choices
      ∧ t.resetUnit = { s.resetUnit with por := true, porTicks := 0 })
    ∧ (∃ t, exec .reset s = .next t ∧ blocksCleared s t ∧ t.port = CommandPort.cleared ∧ t.pending = s.pending
      ∧ t.choices = s.choices
      ∧ t.resetUnit = { s.resetUnit with pinLow := true })
    ∧ (s.resetUnit.pinLow = true → ∃ t, completes .resetRelease [.resetUnit, .port] s t
      ∧ t.resetUnit = { s.resetUnit with pinLow := false }
      ∧ t.port = if s.resetUnit.por then s.port else { s.port with rdy := true })
    ∧ (s.resetUnit.por = true → 40000 ≤ s.resetUnit.porTicks →
      ∃ t, completes .powerOnResetRelease [.resetUnit, .port] s t
        ∧ t.resetUnit = { s.resetUnit with por := false }
        ∧ t.port = if s.resetUnit.pinLow then s.port else { s.port with rdy := true })
    ∧ (s.resetUnit.pinLow = false → hasNoEffect .resetRelease s)
    ∧ (s.resetUnit.por = false ∨ s.resetUnit.porTicks < 40000 → hasNoEffect .powerOnResetRelease s)

/-- INIT outside TESTING clears every block, the time base included, and sets the mode and the operating state; a mode byte
other than 00h and 01h changes nothing. That the level of the CAL pin, the queue and the count of free choices are kept is the
model's choice (logs 2, 3, 39). -/
def Obligations.InitClearsAndSetsMode : Prop :=
  ∀ (mode selfTest : Byte) (s : State), s.port.frameOpen = true → s.port.op ≠ .testing →
    (∀ m : Mode, mode.toNat = m.toNat → ∃ t, exec (.init mode selfTest) s = .next t ∧ blocksCleared s t
      ∧ t.pending = s.pending ∧ t.choices = s.choices ∧ t.resetUnit = s.resetUnit
      ∧ t.port = { s.port with
          op := if selfTest = 0 then .ready else .testing, mode := m, failing := none
          response := some (bare .ok), frameOpen := false, rdy := false, selRise := some 0 })
    ∧ (1 < mode.toNat → declined (.init mode selfTest) .badValue s)

/-- The end of the self-test returns the stores to their reset values and enters READY when all four agreed, and otherwise FAULT
with the first store that did not, and the FAULT condition present. Outside TESTING there is no such event (log 4); that the
row's operands carry the four read-backs is the model's choice (log 26). -/
def Obligations.SelfTestEnds : Prop :=
  ∀ (site zone plan batch : Bool) (s : State),
    (s.port.op ≠ .testing → hasNoEffect (.selfTestEnd site zone plan batch) s)
    ∧ (s.port.op = .testing → ∃ t,
      completes (.selfTestEnd site zone plan batch)
          [.sites, .noticeOrder, .zones, .solver, .slots, .attention, .port] s t
        ∧ t.sites = Table.replicate 64 SiteRecord.vacant ∧ t.noticeOrder = []
        ∧ t.zones = Table.replicate 32 ZoneRecord.cleared ∧ t.solver = Solver.cleared ∧ t.slots = Table.replicate 8 none
        ∧ ((site = true ∧ zone = true ∧ plan = true ∧ batch = true ∧ t.attention = s.attention
              ∧ t.port = { s.port with op := .ready })
          ∨ (∃ x : Store, t.port = { s.port with op := .fault, failing := some x }
              ∧ t.attention = { s.attention with present := { s.attention.present with fault := true } }
              ∧ ((x = .site ∧ site = false) ∨ (x = .zone ∧ site = true ∧ zone = false)
                ∨ (x = .plan ∧ site = true ∧ zone = true ∧ plan = false)
                ∨ (x = .batch ∧ site = true ∧ zone = true ∧ plan = true ∧ batch = false)))))

/-! ### The time base -/

/-- A tick advances the raw count by one and adds F to the fraction; now advances by one du exactly when the sum reaches 2^24.
What now was n ticks ago is n + 1 ticks ago after it, and 0 ticks ago it is now; the two fields that tell it are the model's own
(log 10). In reset the time base does not count, and power-on reset counts the ticks it waits for (log 24). RDY is high by the
time more than 1,000 du have passed since SEL rose; that a tick tells of it no earlier is the model's choice (log 6). -/
def Obligations.OscillatorTickCounts : Prop :=
  ∀ s : State,
    (s.held = false → ∃ t, completes .oscillatorTick [.time, .port] s t
      ∧ t.time.rawCount = s.time.rawCount + 1 ∧ t.time.f = s.time.f ∧ t.time.cal = s.time.cal ∧ t.time.last = s.time.last
      ∧ t.time.calPin = s.time.calPin
      ∧ t.time.fBefore = s.time.fBefore ∧ t.time.sinceF = min 166667 (s.time.sinceF + 1)
      ∧ (s.time.fraction < 16777216 → s.time.nowAt 0 = some s.time.now)
      ∧ (∀ n x, n < 166667 → s.time.nowAt n = some x → t.time.nowAt (n + 1) = some x)
      ∧ ((s.time.fraction + s.time.f < 16777216 ∧ t.time.fraction = s.time.fraction + s.time.f ∧ t.time.now = s.time.now)
        ∨ (16777216 ≤ s.time.fraction + s.time.f ∧ t.time.fraction + 16777216 = s.time.fraction + s.time.f
          ∧ t.time.now = s.time.now + 1))
      ∧ (s.port.selRise = none → t.port = s.port)
      ∧ ∀ x, s.port.selRise = some x →
          t.port = if 1000 < (t.time.now - x).toNat then { s.port with rdy := true, selRise := none } else s.port)
    ∧ (s.resetUnit.por = true → ∃ t, completes .oscillatorTick [.resetUnit] s t
      ∧ t.resetUnit = { s.resetUnit with porTicks := min 40000 (s.resetUnit.porTicks + 1) })
    ∧ (s.resetUnit.por = false → s.resetUnit.pinLow = true → hasNoEffect .oscillatorTick s)

/-- The edges of CAL move a measurement through its phases and the expiry of its window ends it with CAL_TIMEOUT; outside
MEASURING an edge is only sampled. The pulse's falling edge has its own statement. An edge row whose level is already so, and
an expiry row at another instant, have no effect in the model (logs 4, 33). -/
def Obligations.CalEdgesAndWindow : Prop :=
  ∀ s : State,
    (s.time.calPin = true → hasNoEffect .calRisingEdge s) ∧ (s.time.calPin = false → hasNoEffect .calFallingEdge s)
    ∧ ((∀ m, s.time.cal ≠ .measuring m) → hasNoEffect .calWindowExpiry s
      ∧ (s.time.calPin = false → ∃ t, completes .calRisingEdge [.time] s t ∧ t.time = { s.time with calPin := true })
      ∧ (s.time.calPin = true → ∃ t, completes .calFallingEdge [.time] s t ∧ t.time = { s.time with calPin := false }))
    ∧ ∀ m, s.time.cal = .measuring m →
      (s.time.calPin = false → m.phase = .awaitingRise → ∃ t, completes .calRisingEdge [.time] s t
        ∧ t.time = { s.time with calPin := true, cal := .measuring { m with phase := .pulseHigh s.time.rawCount } })
      ∧ (s.time.calPin = false → m.phase ≠ .awaitingRise → ∃ t, completes .calRisingEdge [.time] s t
        ∧ t.time = { s.time with calPin := true })
      ∧ (s.time.calPin = true → m.phase = .awaitingLow → ∃ t, completes .calFallingEdge [.time] s t
        ∧ t.time = { s.time with calPin := false, cal := .measuring { m with phase := .awaitingRise } })
      ∧ (s.time.calPin = true → m.phase = .awaitingRise → ∃ t, completes .calFallingEdge [.time] s t
        ∧ t.time = { s.time with calPin := false })
      ∧ (m.deadline ≠ s.time.now → hasNoEffect .calWindowExpiry s)
      ∧ (m.deadline = s.time.now → ∃ t, completes .calWindowExpiry [.time, .solver, .attention] s t
        ∧ t.time = { s.time with
            cal := if m.returnCalibrated then .calibrated else .uncalibrated
            last := some { outcome := .timeout, e := m.e, c := none, f := none, instant := s.time.now } }
        ∧ markedStale s t ∧ calLatched .timeout s t)

/-- The falling edge that ends a pulse forms C and tests it against 2 % of 4E: within the limit F becomes the whole part of
(2 × E × 2^24 + C) / 2C and the state CALIBRATED, and probes outstanding are voided; outside it the outcome is CAL_RANGE, F is
unchanged and the state is the return state. Two fields of the model's own start anew at an installation, so that they tell the
value now had some ticks ago as before (log 10). -/
def Obligations.PulseEndFormsRateFactor : Prop :=
  ∀ (s : State) (m : Measurement) (start : BitVec 32) (c : Nat),
    s.time.calPin = true → s.time.cal = .measuring m → m.phase = .pulseHigh start → c = (s.time.rawCount - start).toNat →
    (((c : Int) - 4 * m.e).natAbs ≤ 4 * m.e / 50 → ∃ t, completes .calFallingEdge [.time, .trunks, .solver, .attention] s t
      ∧ t.time = { s.time with
          calPin := false, cal := .calibrated, f := (2 * m.e * 16777216 + c) / (2 * c), sinceF := 0, fBefore := some s.time.f
          last := some { outcome := .accepted, e := m.e, c := some c, f := some ((2 * m.e * 16777216 + c) / (2 * c))
                         instant := s.time.now } }
      ∧ (∀ n, n ≤ s.time.sinceF → t.time.nowAt n = s.time.nowAt n)
      ∧ (∀ k, t.trunks.get k = { s.trunks.get k with outstanding := none }) ∧ markedStale s t ∧ calLatched .accepted s t)
    ∧ (4 * m.e / 50 < ((c : Int) - 4 * m.e).natAbs → ∃ t, completes .calFallingEdge [.time, .solver, .attention] s t
      ∧ t.time = { s.time with
          calPin := false, cal := if m.returnCalibrated then .calibrated else .uncalibrated
          last := some { outcome := .range, e := m.e, c := some c, f := none, instant := s.time.now } }
      ∧ markedStale s t ∧ calLatched .range s t)

/-- CAL.START is refused with BUSY while MEASURING and with BAD_VALUE for an E outside its range, and otherwise starts a
measurement with its window deadline 3 × E ahead. -/
def Obligations.CalStartBeginsMeasurement : Prop :=
  ∀ (e : BitVec 24) (s : State), s.ready →
    (∀ m, s.time.cal = .measuring m → declined (.calStart e) .busy s)
    ∧ ((∀ m, s.time.cal ≠ .measuring m) →
      (e.toNat < 100000 ∨ 10000000 < e.toNat → declined (.calStart e) .badValue s)
      ∧ (100000 ≤ e.toNat → e.toNat ≤ 10000000 → ∃ t, answers (.calStart e) (bare .ok) [.time, .solver] s t
        ∧ t.time = { s.time with
            cal := .measuring
              { returnCalibrated := decide (s.time.cal = .calibrated), e := e.toNat
                deadline := s.time.now + BitVec.ofNat 32 (3 * e.toNat)
                phase := if s.time.calPin then .awaitingLow else .awaitingRise } }
        ∧ markedStale s t))

/-! ### The command port -/

/-- Every host command is tested against the operating state as the table of R180 says: a command that is not taken is answered
NOT_READY, or BUSY for INIT in TESTING, and changes nothing. Without a command frame there is no host command (log 4). Here and
in every statement on a host command, that the command is carried out in the du in which SEL rises, which is the instant kept
for RDY's rise, is the model's choice (logs 6, 38). -/
def Obligations.CommandsNotTakenChangeNothing : Prop :=
  ∀ (c : Instr) (k : CommandClass) (s : State), hostCommand c = some k →
    (s.port.frameOpen = false → hasNoEffect c s)
    ∧ (s.port.frameOpen = true → k = .readyOnly → s.port.op ≠ .ready → declined c .notReady s)
    ∧ (s.port.frameOpen = true → k = .initial → s.port.op = .testing → declined c .busy s)

/-- The commands that only read: NOP and STATUS in every operating state; TIME.READ, TRUNK.GET, ZONE.READ and PLAN.READ in
READY, with their refusals. None changes anything. The data of each is written out: its items in the order of the rule's table,
behind the presence field where items may be absent, bytes going most significant first, and that of PLAN.READ as R185 packs it.
Where R181 leaves an encoding open the data is the model's (logs 13 to 15), and so is that a read in the du of the
window deadline, or of the timeout deadline, shows the measurement as ended, or the probe as closed, before the row of the
expiry (log 40). -/
def Obligations.ReadingCommandsChangeNothing : Prop :=
  (∀ s : State, s.statusData =
      [byteOf (128 * s.port.failing.isSome.toNat + 64 * s.attention.calOutcome.isSome.toNat), byteOf s.port.op.toNat,
        byteOf s.port.mode.toNat, (match s.port.failing with
          | some x => byteOf x.toNat
          | none => 0)]
      ++ bytesOf 2 s.attention.present.toNat ++ bytesOf 2 s.attention.mask.toNat
      ++ [(match s.attention.calOutcome with
          | some o => byteOf o.toNat
          | none => 0), byteOf s.time.cal.toNat, boolByte s.solver.running.isSome, boolByte s.solver.stale]
      ++ [SiteState.vacant, .probing, .aligned, .holdover, .suspect, .suspended, .retiring].map (fun x =>
          byteOf ((List.finRange 64).filter fun i => decide ((s.sites.get i).state = x)).length)
      ++ [byteOf ((List.finRange 32).filter fun z => (s.zones.get z).body.isSome).length]
      ++ [0, 1, 2, 3, 4].map (fun n =>
          byteOf ((List.finRange 8).filter fun i => decide (slotStateNumber (s.slots.get i) = n)).length)
      ++ [byteOf s.noticeOrder.length, byteOf s.enabledBits])
    ∧ (∀ (s : State) (k : TrunkNo), s.enabledBits < 256 ∧ s.enabledBits.testBit k.val = (s.trunks.get k).enable)
    ∧ (∀ p : CauseSet, p.toNat < 512 ∧ ∀ c : Cause, p.toNat.testBit (c.rank - 1) = p.has c)
    ∧ (∀ (r t : TimeBase) (measuring : List Byte) (in' : Nat),
        t = (match r.cal with
          | .measuring m =>
            if 1 ≤ (m.deadline - r.now).toNat ∧ (m.deadline - r.now).toNat < 2147483648 then r
            else { r with
              cal := if m.returnCalibrated then .calibrated else .uncalibrated
              last := some { outcome := .timeout, e := m.e, c := none, f := none, instant := m.deadline } }
          | .uncalibrated | .calibrated => r) →
        (match t.cal with
          | .measuring m => measuring = [boolByte m.returnCalibrated] ++ bytesOf 4 (m.deadline - t.now).toNat
              ++ [byteOf m.phase.toNat] ∧ in' = 1
          | .uncalibrated | .calibrated => measuring = [0, 0, 0, 0, 0, 0] ∧ in' = 0) →
        r.readData =
          [byteOf (224 * in' + (match t.last with
            | some o => 18 + 8 * o.c.isSome.toNat + 4 * o.f.isSome.toNat
            | none => 0))]
          ++ bytesOf 4 t.now.toNat ++ bytesOf 4 t.rawCount.toNat ++ bytesOf 3 t.f ++ [byteOf t.cal.toNat] ++ measuring
          ++ (match t.last with
            | some o => [byteOf (o.outcome.toNat + 1)] ++ bytesOf 3 o.e ++ bytesOf 4 (o.c.getD 0) ++ bytesOf 3 (o.f.getD 0)
                ++ bytesOf 4 o.instant.toNat
            | none => List.replicate 15 0))
    ∧ (∀ (s : State) (k : TrunkNo) (tr : Trunk) (probe : Option Outstanding), tr = s.trunks.get k →
        probe = (tr.outstanding.bind fun o =>
          if 1 ≤ (o.deadline - s.time.now).toNat ∧ (o.deadline - s.time.now).toNat < 2147483648 then some o else none) →
        s.trunkData k =
        [byteOf (128 * (decide (tr.timer.toNat = 1)).toNat + 64 * probe.isSome.toNat
            + 32 * (decide (tr.timer.toNat = 2)).toNat),
          boolByte tr.enable] ++ bytesOf 3 tr.rate.bps ++ [byteOf tr.gran.du] ++ bytesOf 3 tr.benchDelay
        ++ [byteOf tr.timer.toNat] ++ (match tr.timer with
          | .running x => bytesOf 4 (x - s.time.now).toNat
          | .stopped | .waiting _ => [0, 0, 0, 0])
        ++ [siteOrNone tr.lastProbed, tr.nextSeq] ++ (match probe with
          | some o => [byteOf o.site.val, byteOf o.address, o.seq] ++ bytesOf 4 o.instant.toNat
              ++ bytesOf 4 (o.deadline - s.time.now).toNat
          | none => List.replicate 11 0)
        ++ (match tr.tx.map Transmission.item with
          | none => [0, 0]
          | some (.probe i) => [1, byteOf i.val]
          | some (.batch i) => [2, s.tagOf i]
          | some (.reply a) => [3, a])
        ++ [byteOf tr.batchQueue.length] ++ tr.batchQueue.map s.tagOf ++ [byteOf tr.replyQueue.length]
        ++ (match tr.timer with
          | .waiting i => [byteOf i.val]
          | .stopped | .running _ => [0])
        ++ bytesOf 2 tr.discards ++ bytesOf 2 tr.strays)
    ∧ (∀ (s : State) (z : ZoneNo) (b : ZoneBody) (entry : Option ZoneEntry),
        (∀ e, entry = some e → ∃ p before after, s.solver.latest = some p ∧ p.zones = before ++ e :: after ∧ e.zone = z
          ∧ ∀ x ∈ before, x.zone ≠ z) →
        (entry = none → ∀ p, s.solver.latest = some p → ∀ e ∈ p.zones, e.zone ≠ z) →
        s.zoneData z b =
          [byteOf (32 * s.solver.latest.isSome.toNat + (match entry with
            | some e => 216 + 4 * e.spread.isSome.toNat
            | none => 0)), byteOf z.val] ++ bytesOf 2 (s.zones.get z).revision.toNat ++ bytesOf 2 b.tolerance
          ++ [byteOf b.members.length]
          ++ (b.members.flatMap fun m => [byteOf m.1.val] ++ bytesOf 2 m.2 ++ [byteOf (s.sites.get m.1).state.toNat])
          ++ [siteOrNone b.yieldMember] ++ bytesOf 2 s.solver.epoch
          ++ (match entry with
            | some e => bytesOf 2 e.revision.toNat ++ [boolByte (decide (e.revision = (s.zones.get z).revision))]
            | none => [0, 0, 0])
          ++ [boolByte s.solver.provisional]
          ++ (match entry with
            | some e => [byteOf e.firstPass.toNat, byteOf e.final.toNat] ++ bytesOf 4 (e.spread.getD 0)
            | none => [0, 0, 0, 0, 0, 0]))
    ∧ (∀ (s : State) (first : SiteNo) (count : Nat), s.planData first count =
        bytesOf 2 s.solver.epoch
          ++ [byteOf (8 * s.solver.latest.isSome.toNat + 4 * s.solver.provisional.toNat + 2 * s.solver.stale.toNat
            + s.solver.running.isSome.toNat)]
          ++ (match s.solver.latest with
            | some p => bytesOf 3 p.horizon ++ bytesOf 2 (granBits p.grans)
                ++ [byteOf ((List.finRange 64).filter fun i => (p.sites.get i).isLaunch).length,
                  byteOf ((List.finRange 64).filter fun i => (p.sites.get i).isMuted).length, byteOf p.zones.length,
                  byteOf (p.zones.filter fun z => decide (z.final = .violated)).length]
            | none => List.replicate 9 0)
          ++ [byteOf first.val, byteOf (min count (64 - first.val))]
          ++ ((List.finRange 64).filter fun i => decide (first.val ≤ i.val ∧ i.val < first.val + count)).flatMap fun i =>
            match (s.solver.latest.map fun p => p.sites.get i : Option Disposition) with
            | none => [0x80, 0, 0, 0, 0]
            | some (.launch q) => byteOf (8 * q.short.toNat + q.trunk.val) :: bytesOf 4 (q.rawHold % 4294967296).toNat
            | some (.muted q) => byteOf (64 + 8 * q.short.toNat + q.trunk.val) :: bytesOf 4 (q.rawHold % 4294967296).toNat
            | some (.excluded r) => [byteOf (128 + 16 * r.toNat), 0, 0, 0, 0])
    ∧ (∀ (g : Table Granularity 8) (k : TrunkNo), granBits g < 65536 ∧ granBits g / 4 ^ k.val % 4
        = match g.get k with
          | .du1 => 0
          | .du10 => 1
          | .du100 => 2)
    ∧ (∀ n v : Nat, bytesOf n v = (List.range n).map fun i => BitVec.ofNat 8 (v / 256 ^ (n - 1 - i)))
    ∧ (∀ s : State, s.port.frameOpen = true → reads .nop [] s ∧ reads .status s.statusData s)
    ∧ ∀ s : State, s.ready →
      reads .timeRead s.time.readData s
      ∧ (∀ (b : Byte) (k : TrunkNo), b.toNat = k.val → reads (.trunkGet b) (s.trunkData k) s)
      ∧ (∀ b : Byte, 8 ≤ b.toNat → declined (.trunkGet b) .badValue s)
      ∧ (∀ (b : Byte) (z : ZoneNo), b.toNat = z.val →
          (∀ body, (s.zones.get z).body = some body → reads (.zoneRead b) (s.zoneData z body) s)
          ∧ ((s.zones.get z).body = none → declined (.zoneRead b) .noSuch s))
      ∧ (∀ b : Byte, 32 ≤ b.toNat → declined (.zoneRead b) .badValue s)
      ∧ (∀ (first count : Byte) (i : SiteNo), first.toNat = i.val → 1 ≤ count.toNat → count.toNat ≤ 16 →
          reads (.planRead first count) (s.planData i count.toNat) s)
      ∧ (∀ first count : Byte, 64 ≤ first.toNat ∨ count.toNat = 0 ∨ 16 < count.toNat →
          declined (.planRead first count) .badValue s)

/-- CONFIG.GET answers the nine parameters in code order at their widths, 23 bytes, and changes nothing. -/
def Obligations.ConfigGetReadsParameters : Prop :=
  ∀ s : State, s.ready → ∃ data : List Byte, reads .configGet data s ∧ data.length = 23
    ∧ data = bytesOf 3 s.config.horizon ++ bytesOf 3 s.config.jumpLimit ++ bytesOf 3 s.config.probePeriod
        ++ bytesOf 3 s.config.probeTimeout ++ bytesOf 1 s.config.growth ++ bytesOf 2 s.config.ceiling
        ++ bytesOf 3 s.config.spacing ++ bytesOf 3 s.config.driftThreshold ++ bytesOf 2 s.attention.mask.toNat

/-- A command frame takes the waiting answer and shifts it out behind a header of that moment, result code, top cause, device
state, plan epoch and data length written out, and then 00h; a pending frame shifts out a PENDING header and leaves RDY and the
response buffer as they were. With SEL high SDO is at high impedance; within a frame of either kind bytes go most significant
bit first; that a pending frame is over with its row is the model's choice (log 29). That RDY's rise may be told by the command
frame itself is the model's choice (log 6), as are the rows' occasions (log 4). -/
def Obligations.FramesShiftOutHeaders : Prop :=
  ([OpState.uninit, .testing, .ready, .fault].map OpState.toNat = [0, 1, 2, 3] ∧ [Mode.align, .bench].map Mode.toNat = [0, 1]
    ∧ [ResultCode.ok, .pending, .clamped, .slipped, .badCommand, .badLength, .badValue, .notReady, .busy, .noSuch, .inUse,
        .addrInUse, .badState, .siteHeld, .trunkActive, .queueFull, .tagInUse, .tooFar, .spacing, .tooLate, .notFound,
        .empty].map ResultCode.toByte
      = [0x00, 0x01, 0x02, 0x03, 0x10, 0x11, 0x12, 0x13, 0x14, 0x15, 0x16, 0x17, 0x18, 0x19, 0x1A, 0x1B, 0x1C, 0x1D, 0x1E,
        0x1F, 0x20, 0x21])
  ∧ ∀ s : State,
    (s.port.frameOpen = false → ∀ k, s.port.sdoBit? k = none)
    ∧ (s.port.frameOpen = true → ∀ k j, j < 8 → s.port.sdoBit? (8 * k + j) = some ((s.port.clockedOut k).getLsbD (7 - j)))
    ∧ (∀ k, (∀ b, s.port.sdo[k]? = some b → s.port.clockedOut k = b)
        ∧ (s.port.sdo.length ≤ k → s.port.clockedOut k = 0x00))
    ∧ (s.port.frameOpen = false → s.held = false → ∀ (top : Nat) (device : Byte), s.attention.present.topIs top →
      device = byteOf (64 * s.port.op.toNat + 32 * s.port.mode.toNat
        + 8 * (match s.time.cal with
          | .uncalibrated => 0
          | .measuring _ => 1
          | .calibrated => 2)
        + 4 * s.solver.stale.toNat + 2 * s.solver.running.isSome.toNat
        + (match s.solver.latest with
          | some p => p.provisional.toNat
          | none => 0)) →
      (s.port.rdy = true ∨ s.port.selRise.isSome = true → ∀ a : Answer, s.port.response = some a →
        ∃ t, completes .commandFrameStart [.port] s t
          ∧ t.port = { s.port with
              sdo := [a.code.toByte, byteOf top, device] ++ bytesOf 2 s.solver.epoch ++ [byteOf a.data.length] ++ a.data
              response := none, frameOpen := true, rdy := true, selRise := none })
      ∧ (s.port.rdy = false → ∃ t, completes .pendingFrame [.port] s t
          ∧ t.port = { s.port with
              sdo := [0x01, byteOf top, device] ++ bytesOf 2 s.solver.epoch ++ [0x00] }
          ∧ ∀ k j, j < 8 → s.pendingSdoBit? (8 * k + j) = some ((t.port.clockedOut k).getLsbD (7 - j))))
    ∧ (s.port.frameOpen = true ∨ s.held = true ∨ s.port.rdy = true → ∀ k, s.pendingSdoBit? k = none)
    ∧ (s.port.frameOpen = true ∨ s.held = true → hasNoEffect .commandFrameStart s ∧ hasNoEffect .pendingFrame s)
    ∧ (s.port.rdy = false → s.port.selRise = none → hasNoEffect .commandFrameStart s)
    ∧ (s.port.rdy = true → hasNoEffect .pendingFrame s)

/-- A frame that spells no command is answered BAD_LENGTH or BAD_COMMAND in every operating state and reaches no block; a
CONFIG.SET of an unknown parameter is answered BAD_VALUE in READY and NOT_READY elsewhere. That this row carries it, that bytes
which spell a command are no bad frame (log 12), and that the row has no effect without a command frame (log 4) are the model's
choices. -/
def Obligations.BadFramesReachNoBlock : Prop :=
  ∀ (bits : List Bool) (bytes : List Byte) (s : State), bytes = sdiBytes bits →
    (s.port.frameOpen = true →
      (parseFrame bytes = .error .badLength → declined (.badCommandFrame bits) .badLength s)
      ∧ (parseFrame bytes = .error .badCommand → declined (.badCommandFrame bits) .badCommand s)
      ∧ (parseFrame bytes = .error .unknownParameter →
        declined (.badCommandFrame bits) (if s.port.op = .ready then .badValue else .notReady) s))
    ∧ (s.port.frameOpen = false → hasNoEffect (.badCommandFrame bits) s)
    ∧ ∀ c, parseFrame bytes = .ok c → hasNoEffect (.badCommandFrame bits) s

/-- ATTN is asserted exactly while a cause is present and unmasked. ACK refuses a set that marks a condition, and otherwise
clears the marked latched causes and CAL's outcome with CAL, and answers the latched causes still present, with the CAL outcome
when CAL is among them; the attention mask takes its nine marks from CONFIG.SET. The
layout of ACK's data is the model's (log 16), and that bits 16 to 31 of the mask value are ignored too (log 17). -/
def Obligations.AckAndMask : Prop :=
  (∀ s : State, s.attn = true ↔ ∃ c : Cause, s.attention.present.has c = true ∧ s.attention.mask.has c = false)
  ∧ ∀ s : State, s.ready →
    (∀ causes : BitVec 16,
      (causes &&& 0x1DD#16 ≠ 0 → declined (.ack causes) .badValue s)
      ∧ (causes &&& 0x1DD#16 = 0 → ∃ t data, answers (.ack causes) { code := .ok, data := data } [.attention] s t
        ∧ data = [0x00, byteOf (2 * t.attention.present.cal.toNat + 32 * t.attention.present.step.toNat)]
            ++ (match t.attention.present.cal, t.attention.calOutcome with
              | true, some .accepted => [0x00]
              | true, some .timeout => [0x01]
              | true, some .range => [0x02]
              | _, _ => [])
        ∧ t.attention = { s.attention with
            present := { s.attention.present with
              cal := s.attention.present.cal && !causes.getLsbD 1
              step := s.attention.present.step && !causes.getLsbD 5 }
            calOutcome := if causes.getLsbD 1 then none else s.attention.calOutcome }))
    ∧ ∀ value : BitVec 32, ∃ t,
      answers (.configSetAttentionMask value) { code := .ok, data := bytesOf 4 (value.toNat % 512) } [.attention] s t
        ∧ t.attention.present = s.attention.present ∧ t.attention.calOutcome = s.attention.calOutcome
        ∧ t.attention.mask.toNat = value.toNat % 512
        ∧ ∀ c : Cause, t.attention.mask.has c = value.getLsbD (c.rank - 1)

/-! ### The operating parameters -/

/-- CONFIG.SET of J and of W clamps the value to its range, stores it and answers CLAMPED where that changed it and else OK,
with the value stored in four bytes; of P and of Q the clamped value is also refused unless Q stays below P. Nothing else
changes. -/
def Obligations.ConfigSetClampsAndStores : Prop :=
  ∀ (value : BitVec 32) (s : State) (answer : Nat → Answer), s.ready →
    answer = (fun stored => { code := if stored = value.toNat then .ok else .clamped, data := bytesOf 4 stored }) →
    (∃ t, answers (.configSetJumpLimit value) (answer (max 10 (min 100000 value.toNat))) [.config] s t
      ∧ t.config = { s.config with jumpLimit := max 10 (min 100000 value.toNat) })
    ∧ (∃ t, answers (.configSetLaunchSpacing value) (answer (min 10000000 value.toNat)) [.config] s t
      ∧ t.config = { s.config with spacing := min 10000000 value.toNat })
    ∧ (∀ p, p = max 10000 (min 10000000 value.toNat) →
      (p ≤ s.config.probeTimeout → declined (.configSetProbePeriod value) .badValue s)
      ∧ (s.config.probeTimeout < p → ∃ t, answers (.configSetProbePeriod value) (answer p) [.config] s t
        ∧ t.config = { s.config with probePeriod := p }))
    ∧ ∀ q, q = max 1000 (min 9999999 value.toNat) →
      (s.config.probePeriod ≤ q → declined (.configSetProbeTimeout value) .badValue s)
      ∧ (q < s.config.probePeriod → ∃ t, answers (.configSetProbeTimeout value) (answer q) [.config] s t
        ∧ t.config = { s.config with probeTimeout := q })

/-- CONFIG.SET of G and of U makes the SUSPECT test at every site at once, and of D re-evaluates drift pending at every site; a
value that is already held changes nothing but the answer. -/
def Obligations.ConfigSetReachesEverySite : Prop :=
  ∀ (value : BitVec 32) (s : State) (answer : Nat → Answer), s.ready →
    answer = (fun stored => { code := if stored = value.toNat then .ok else .clamped, data := bytesOf 4 stored }) →
    (∀ g, g = min 255 value.toNat →
      (g = s.config.growth → answersOnly (.configSetHoldoverGrowth value) (answer g) s)
      ∧ (g ≠ s.config.growth → ∃ t,
        answers (.configSetHoldoverGrowth value) (answer g) [.sites, .solver, .attention, .config] s t
          ∧ t.config = { s.config with growth := g }
          ∧ (∀ i, t.sites.get i = if ∃ u, (s.sites.get i).u g = some u ∧ s.config.ceiling < u
              then { s.sites.get i with phase := .suspect [] } else s.sites.get i)
          ∧ t.solver.running = s.solver.running ∧ t.solver.latest = s.solver.latest
          ∧ (t.solver.stale = true ↔ s.solver.stale = true
              ∨ ∃ i, (s.sites.get i).u s.config.growth ≠ (t.sites.get i).u g)
          ∧ conditionsFollow [.suspect, .holdover, .drift] s t))
    ∧ (∀ u, u = max 10 (min 65535 value.toNat) →
      (u = s.config.ceiling → answersOnly (.configSetUncertaintyCeiling value) (answer u) s)
      ∧ (u ≠ s.config.ceiling → ∃ t,
        answers (.configSetUncertaintyCeiling value) (answer u) [.sites, .solver, .attention, .config] s t
          ∧ t.config = { s.config with ceiling := u }
          ∧ (∀ i, t.sites.get i = if ∃ v, (s.sites.get i).u s.config.growth = some v ∧ u < v
              then { s.sites.get i with phase := .suspect [] } else s.sites.get i)
          ∧ t.solver.running = s.solver.running ∧ t.solver.latest = s.solver.latest
          ∧ (t.solver.stale = true ↔ s.solver.stale = true
              ∨ ∃ i, (s.sites.get i).state ≠ (t.sites.get i).state)
          ∧ conditionsFollow [.suspect, .holdover, .drift] s t))
    ∧ ∀ d, d = min 1000000 value.toNat →
      (d = s.config.driftThreshold → answersOnly (.configSetDriftThreshold value) (answer d) s)
      ∧ (d ≠ s.config.driftThreshold → ∃ t,
        answers (.configSetDriftThreshold value) (answer d) [.sites, .attention, .config] s t
          ∧ t.config = { s.config with driftThreshold := d }
          ∧ (∀ i, t.sites.get i = { s.sites.get i with drift := (t.sites.get i).drift }
              ∧ ((t.sites.get i).drift = true ↔ ∃ e, (s.sites.get i).est = some e ∧ d ≠ 0
                  ∧ d < ((e.d : Int) - e.reported).natAbs))
          ∧ conditionsFollow [.suspect, .holdover, .drift] s t)

/-- CONFIG.SET of H marks the plan stale and recomputes every PENDING batch: a dispatch instant still ahead is moved, and
the batches whose new dispatch instant is not later than now are slipped to now + H and dispatched in the same arrival, in the
pending order. Batches past PENDING and trunks but for their queues are left alone; a value already held changes nothing but the
answer. -/
def Obligations.ConfigSetHorizonMovesPending : Prop :=
  ∀ (value : BitVec 32) (s : State) (h : Nat) (answer : Answer), s.ready → h = max 10000 (min 16000000 value.toNat) →
    answer = { code := if h = value.toNat then .ok else .clamped, data := bytesOf 4 h } →
    (h = s.config.horizon → answersOnly (.configSetHorizon value) answer s)
    ∧ (h ≠ s.config.horizon → ∃ t,
      answers (.configSetHorizon value) answer [.trunks, .solver, .slots, .attention, .config] s t
        ∧ t.config = { s.config with horizon := h } ∧ markedStale s t ∧ conditionsFollow [.report] s t
        ∧ ∃ x order, takenAtDispatch true s x ∧ framesQueued order x s t ∧ order.Nodup
        ∧ (∀ i, i ∈ order ↔ ∃ b, s.slots.get i = some b ∧ b.phase = .pending
            ∧ isLater (b.actual - BitVec.ofNat 32 h) s.time.now = false)
        ∧ (order.Pairwise fun i j => ∀ b c, s.slots.get i = some b → s.slots.get j = some c → b.posting ≤ c.posting)
        ∧ ∀ i, (s.slots.get i = none → t.slots.get i = none)
          ∧ ∀ b, s.slots.get i = some b →
            (b.phase ≠ .pending → t.slots.get i = some b)
            ∧ (b.phase = .pending → isLater (b.actual - BitVec.ofNat 32 h) s.time.now = true →
                t.slots.get i = some { b with dispatch := b.actual - BitVec.ofNat 32 h })
            ∧ (b.phase = .pending → isLater (b.actual - BitVec.ofNat 32 h) s.time.now = false →
                t.slots.get i = some
                  { b with actual := s.time.now + BitVec.ofNat 32 h, dispatch := s.time.now, slipped := true
                           phase := phaseAfterDispatch x }))

/-! ### Trunk configuration -/

/-- TRUNK.SET: its refusals, the enabling of a disabled trunk, and the rewriting that neither enables nor disables. -/
def Obligations.TrunkSetConfiguresAndEnables : Prop :=
  ∀ (trunk enable gran : Byte) (rate benchDelay : BitVec 24) (s : State), s.ready →
    (8 ≤ trunk.toNat ∨ (∀ r : BitRate, r.bps ≠ rate.toNat) ∨ (∀ g : Granularity, g.du ≠ gran.toNat) →
      declined (.trunkSet trunk enable rate gran benchDelay) .badValue s)
    ∧ ∀ (k : TrunkNo) (r : BitRate) (g : Granularity), k.val = trunk.toNat → r.bps = rate.toNat → g.du = gran.toNat →
      ((s.trunks.get k).enable = true → (s.trunks.get k).rate ≠ r ∨ (s.trunks.get k).gran ≠ g →
        declined (.trunkSet trunk enable rate gran benchDelay) .trunkActive s)
      ∧ ((s.trunks.get k).enable = false → enable ≠ 0 → ∃ t,
        answers (.trunkSet trunk enable rate gran benchDelay) (bare .ok) [.trunks, .solver] s t ∧ markedStale s t
          ∧ trunkBecomes k
            { s.trunks.get k with
              rate := r, gran := g, benchDelay := benchDelay.toNat, enable := true
              timer := .running (s.time.now + BitVec.ofNat 32 s.config.probePeriod), framer := .hunting, discards := 0
              strays := 0, batchQueue := [], replyQueue := [], bench := { undelivered := [], delivering := none } } s t)
      ∧ (((s.trunks.get k).enable = false ∧ enable = 0)
          ∨ ((s.trunks.get k).enable = true ∧ enable ≠ 0 ∧ (s.trunks.get k).rate = r ∧ (s.trunks.get k).gran = g) → ∃ t,
        answers (.trunkSet trunk enable rate gran benchDelay) (bare .ok) [.trunks] s t
          ∧ trunkBecomes k { s.trunks.get k with rate := r, gran := g, benchDelay := benchDelay.toNat } s t)

/-- A TRUNK.SET that disables its trunk voids the outstanding probe, cuts off and empties what is sent and received, sends the
trunk's probed sites to PROBING, marks the plan stale, and reports each of its batch frames dropped to the frame's batch. Where
a batch thereby enters DONE the retire-completion test is run. The conditions follow, from states in which they agree with
their sources. -/
def Obligations.TrunkSetDisables : Prop :=
  ∀ (trunk gran : Byte) (rate benchDelay : BitVec 24) (s : State) (k : TrunkNo), s.ready → k.val = trunk.toNat →
    (s.trunks.get k).enable = true → (s.trunks.get k).rate.bps = rate.toNat → (s.trunks.get k).gran.du = gran.toNat →
    ∃ t, answers (.trunkSet trunk 0 rate gran benchDelay) (bare .ok)
        [.sites, .noticeOrder, .trunks, .solver, .slots, .attention] s t
      ∧ trunkBecomes k
        { s.trunks.get k with
          benchDelay := benchDelay.toNat, enable := false, timer := .stopped, outstanding := none, tx := none
          framer := .idle, batchQueue := [], replyQueue := [], bench := { undelivered := [], delivering := none } } s t
      ∧ markedStale s t
      ∧ (∀ i, (s.sites.get i).onTrunk k = true → (s.sites.get i).phase.probed = true →
          t.sites.get i = { s.sites.get i with phase := .probing [], m := 0 })
      ∧ (∀ i, (s.sites.get i).onTrunk k = false ∨ (s.sites.get i).phase.probed = false →
          (passesAfter s t i ∧ (∃ j, isDone (s.slots.get j) = false ∧ isDone (t.slots.get j) = true) →
            t.sites.get i = SiteRecord.vacant)
          ∧ (¬(passesAfter s t i ∧ ∃ j, isDone (s.slots.get j) = false ∧ isDone (t.slots.get j) = true) →
            t.sites.get i = s.sites.get i))
      ∧ vacatedLeaveOrder s t ∧ (causesAgree s → conditionsFollow [.suspect, .holdover, .drift, .notice, .report] s t)
      ∧ (∀ i, i ∉ (s.trunks.get k).droppedSlots → t.slots.get i = s.slots.get i)
      ∧ ∀ i b x n, (s.trunks.get k).droppedSlots.count i = 1 → s.slots.get i = some b → b.phase = .dispatching x n →
          ∀ y : Dispatched,
            y = { x with report := { x.report with dropped := x.report.dropped + (x.entriesOf k).length } } →
            (1 < n → t.slots.get i = some { b with phase := .dispatching y (n - 1) })
            ∧ (n = 1 → t.slots.get i = some
                { b with
                  phase :=
                    if isLater (b.actual + BitVec.ofNat 32 200000) s.time.now then
                      .inFlight y (b.actual + BitVec.ofNat 32 200000)
                    else .done y })

/-! ### Sites -/

/-- SITE.ADMIT: its refusals in order, and the record an admission writes: the link, and PROBING over reset values. -/
def Obligations.SiteAdmitWritesRecord : Prop :=
  ∀ (site trunk address : Byte) (asym : BitVec 16) (trim : BitVec 24) (s : State), s.ready →
    (64 ≤ site.toNat ∨ 8 ≤ trunk.toNat ∨ address.toNat = 0 ∨ 30 < address.toNat ∨ 100000 < trim.toInt.natAbs →
      declined (.siteAdmit site trunk address asym trim) .badValue s)
    ∧ ∀ (i : SiteNo) (k : TrunkNo), i.val = site.toNat → k.val = trunk.toNat → 1 ≤ address.toNat → address.toNat ≤ 30 →
      trim.toInt.natAbs ≤ 100000 →
      ((s.sites.get i).state ≠ .vacant → declined (.siteAdmit site trunk address asym trim) .inUse s)
      ∧ ((s.sites.get i).state = .vacant →
        (∃ j, j ≠ i ∧ (s.sites.get j).state ≠ .vacant ∧ (s.sites.get j).isAt k address.toNat = true) →
        declined (.siteAdmit site trunk address asym trim) .addrInUse s)
      ∧ ((s.sites.get i).state = .vacant →
        (∀ j, j ≠ i → (s.sites.get j).state ≠ .vacant → (s.sites.get j).isAt k address.toNat = false) →
        ∃ t, answers (.siteAdmit site trunk address asym trim) (bare .ok) [.sites, .solver, .attention] s t
          ∧ siteBecomes i
            { phase := .probing [], est := none, s := 0, m := 0, drift := false, notice := none
              link := some { trunk := k, address := address.toNat, asym := asym.toInt, trim := trim.toInt } } s t
          ∧ markedStale s t ∧ conditionsFollow [.suspect, .holdover, .drift] s t)

/-- SITE.AMEND: its refusals in order, and the writing of the named values; a trunk and address other than the record's own move
the site, which enters PROBING. A change of A alone makes no plan mark, and no amendment touches an outstanding probe. -/
def Obligations.SiteAmendWritesNamedValues : Prop :=
  ∀ (site mask trunk address : Byte) (asym : BitVec 16) (trim : BitVec 24) (s : State), s.ready →
    (64 ≤ site.toNat ∨ mask &&& 7#8 = 0 → declined (.siteAmend site mask asym trim trunk address) .badValue s)
    ∧ ∀ i : SiteNo, i.val = site.toNat → mask &&& 7#8 ≠ 0 →
      ((s.sites.get i).state = .vacant → declined (.siteAmend site mask asym trim trunk address) .noSuch s)
      ∧ ((s.sites.get i).state = .retiring → declined (.siteAmend site mask asym trim trunk address) .busy s)
      ∧ ((s.sites.get i).state ≠ .vacant → (s.sites.get i).state ≠ .retiring →
        ((mask.getLsbD 1 = true ∧ 100000 < trim.toInt.natAbs)
            ∨ (mask.getLsbD 2 = true ∧ (8 ≤ trunk.toNat ∨ address.toNat = 0 ∨ 30 < address.toNat)) →
          declined (.siteAmend site mask asym trim trunk address) .badValue s)
        ∧ ∀ (l : Link) (k : TrunkNo) (moved : Bool) (l' : Link), (s.sites.get i).link = some l →
          (mask.getLsbD 1 = true → trim.toInt.natAbs ≤ 100000) →
          (mask.getLsbD 2 = true → k.val = trunk.toNat ∧ 1 ≤ address.toNat ∧ address.toNat ≤ 30) →
          moved = (mask.getLsbD 2 && decide ((k, address.toNat) ≠ (l.trunk, l.address))) →
          l' = { trunk := if mask.getLsbD 2 then k else l.trunk
                 address := if mask.getLsbD 2 then address.toNat else l.address
                 asym := if mask.getLsbD 0 then asym.toInt else l.asym
                 trim := if mask.getLsbD 1 then trim.toInt else l.trim } →
          (moved = true →
            (∃ j, j ≠ i ∧ (s.sites.get j).state ≠ .vacant ∧ (s.sites.get j).isAt k address.toNat = true) →
            declined (.siteAmend site mask asym trim trunk address) .addrInUse s)
          ∧ ((moved = true →
              ∀ j, j ≠ i → (s.sites.get j).state ≠ .vacant → (s.sites.get j).isAt k address.toNat = false) →
            ∃ t, answers (.siteAmend site mask asym trim trunk address) (bare .ok) [.sites, .solver, .attention] s t
              ∧ siteBecomes i
                (if moved then { s.sites.get i with link := some l', phase := .probing [], m := 0 }
                  else { s.sites.get i with link := some l' }) s t
              ∧ t.solver = { s.solver with stale := s.solver.stale || moved || decide (l'.trim ≠ l.trim) }
              ∧ conditionsFollow [.suspect, .holdover, .drift] s t))

/-- SITE.READ answers the record as it stands, its items in the order of R37's table behind the presence field; an
acknowledgement of a site that was ever aligned then sets the reported delay to d, clears drift pending, and makes no plan mark.
The encoding of absent lists and enumerations is the model's (logs 13, 14). -/
def Obligations.SiteReadAndAcknowledge : Prop :=
  ([SiteState.vacant, .probing, .aligned, .holdover, .suspect, .suspended, .retiring].map SiteState.toNat = [0, 1, 2, 3, 4, 5, 6]
    ∧ [NoticeKind.keyfail, .paFault, .siteRestart, .serviceOff, .serviceOn].map NoticeKind.toNat = [0, 1, 2, 3, 4])
  ∧ ∀ (site acknowledge : Byte) (s : State), s.ready →
    (64 ≤ site.toNat → declined (.siteRead site acknowledge) .badValue s)
    ∧ ∀ i : SiteNo, i.val = site.toNat →
      ((s.sites.get i).state = .vacant → declined (.siteRead site acknowledge) .noSuch s)
      ∧ ((s.sites.get i).state ≠ .vacant → ∀ (r : SiteRecord) (data : Byte → List Byte), r = s.sites.get i →
        data = (fun acknowledged =>
          [byteOf (136 * r.est.isSome.toNat + (match r.phase with
              | .aligned _ | .holdover _ _ => 80
              | .probing _ | .suspect _ => 32
              | .vacant | .suspended _ | .retiring => 0) + 4 * r.notice.isSome.toNat), byteOf i.val, byteOf r.state.toNat]
          ++ (match r.link with
            | some l => [byteOf l.trunk.val, byteOf l.address] ++ bytesOf 2 (l.asym % 65536).toNat
                ++ bytesOf 3 (l.trim % 16777216).toNat
            | none => List.replicate 7 0)
          ++ [boolByte r.est.isSome] ++ bytesOf 3 ((r.est.map Estimate.d).getD 0) ++ bytesOf 2 r.s ++ [byteOf r.m]
          ++ (match r.phase with
            | .holdover _ h => bytesOf 2 h ++ bytesOf 3 (r.s + s.config.growth * h)
            | .aligned _ => [0, 0] ++ bytesOf 3 r.s
            | .vacant | .probing _ | .suspect _ | .suspended _ | .retiring => List.replicate 5 0)
          ++ (match r.phase with
            | .probing l | .suspect l => byteOf l.length :: l.flatMap (bytesOf 3) ++ [0]
            | .aligned l | .holdover l _ => [0, byteOf l.length] ++ l.flatMap (bytesOf 3)
            | .vacant | .suspended _ | .retiring => [0, 0])
          ++ bytesOf 3 ((r.est.map Estimate.reported).getD 0)
          ++ [boolByte r.drift, boolByte (decide (r.phase = .suspended true)), boolByte r.notice.isSome, (match r.notice with
            | some n => byteOf n.kind.toNat
            | none => 0), acknowledged]) →
        (acknowledge = 0 ∨ r.est = none → reads (.siteRead site acknowledge) (data 0) s)
        ∧ ∀ e, acknowledge ≠ 0 → r.est = some e → ∃ t,
          answers (.siteRead site acknowledge) { code := .ok, data := data 1 } [.sites, .attention] s t
            ∧ siteBecomes i { r with est := some { d := e.d, reported := e.d }, drift := false } s t
            ∧ conditionsFollow [.suspect, .holdover, .drift] s t)

/-- SITE.SUSPEND and SITE.RESUME: their refusals, the suspension of a probed site, the suspension that leaves a SUSPENDED site
as it is, and the resumption into PROBING. -/
def Obligations.SiteSuspendAndResume : Prop :=
  ∀ (site : Byte) (s : State), s.ready →
    (64 ≤ site.toNat → declined (.siteSuspend site) .badValue s ∧ declined (.siteResume site) .badValue s)
    ∧ ∀ i : SiteNo, i.val = site.toNat →
      ((s.sites.get i).state = .vacant → declined (.siteSuspend site) .noSuch s ∧ declined (.siteResume site) .noSuch s)
      ∧ ((s.sites.get i).state = .retiring → declined (.siteSuspend site) .busy s)
      ∧ ((s.sites.get i).state = .suspended → answersOnly (.siteSuspend site) (bare .ok) s)
      ∧ ((s.sites.get i).phase.probed = true → ∃ t,
        answers (.siteSuspend site) (bare .ok) [.sites, .solver, .attention] s t
          ∧ siteBecomes i { s.sites.get i with phase := .suspended false, m := 0 } s t ∧ markedStale s t
          ∧ conditionsFollow [.suspect, .holdover, .drift] s t)
      ∧ ((s.sites.get i).state ≠ .vacant → (s.sites.get i).state ≠ .suspended → declined (.siteResume site) .badState s)
      ∧ ((s.sites.get i).phase = .suspended true → declined (.siteResume site) .siteHeld s)
      ∧ ((s.sites.get i).phase = .suspended false → ∃ t,
        answers (.siteResume site) (bare .ok) [.sites, .solver, .attention] s t
          ∧ siteBecomes i { s.sites.get i with phase := .probing [], m := 0 } s t ∧ markedStale s t
          ∧ conditionsFollow [.suspect, .holdover, .drift] s t)

/-- SITE.RETIRE: its refusals, the entry into RETIRING, and the removal of the site from every zone that holds it, whose yield
member it leaves none and whose revision rises by one. -/
def Obligations.SiteRetireLeavesZones : Prop :=
  ∀ (site : Byte) (s : State), s.ready →
    (64 ≤ site.toNat → declined (.siteRetire site) .badValue s)
    ∧ ∀ i : SiteNo, i.val = site.toNat →
      ((s.sites.get i).state = .vacant → declined (.siteRetire site) .noSuch s)
      ∧ ((s.sites.get i).state = .retiring → declined (.siteRetire site) .busy s)
      ∧ ((s.sites.get i).state ≠ .vacant → (s.sites.get i).state ≠ .retiring → ∃ t,
        answers (.siteRetire site) (bare .ok) [.sites, .zones, .solver, .attention] s t
          ∧ siteBecomes i { s.sites.get i with phase := .retiring, m := 0 } s t ∧ markedStale s t
          ∧ conditionsFollow [.suspect, .holdover, .drift] s t
          ∧ ∀ z, (∀ b, (s.zones.get z).body = some b → (∃ m ∈ b.members, m.1 = i) →
              t.zones.get z =
                { body := some
                    { b with
                      members := b.members.filter fun m => decide (m.1 ≠ i)
                      yieldMember := if b.yieldMember = some i then none else b.yieldMember }
                  revision := (s.zones.get z).revision + 1 })
            ∧ ((∀ b, (s.zones.get z).body = some b → ∀ m ∈ b.members, m.1 ≠ i) → t.zones.get z = s.zones.get z))

/-- NOTICE.TAKE answers the notice at the head of the notice order, empties its slot and removes its site from the list; with an
empty list it is answered EMPTY. The number of a kind in the answer is the model's (log 14). -/
def Obligations.NoticeTakeRemovesHead : Prop :=
  ∀ s : State, s.ready →
    (s.noticeOrder = [] → declined .noticeTake .empty s)
    ∧ ∀ i rest n, s.noticeOrder = i :: rest → (s.sites.get i).notice = some n → ∃ t,
      answers .noticeTake
          { code := .ok
            data := [byteOf i.val, byteOf n.kind.toNat] ++ bytesOf 2 n.detail.toNat ++ bytesOf 4 n.instant.toNat
              ++ [byteOf rest.length] }
          [.sites, .noticeOrder, .attention] s t
        ∧ siteBecomes i { s.sites.get i with notice := none } s t ∧ t.noticeOrder = rest
        ∧ conditionsFollow [.suspect, .holdover, .drift, .notice] s t

/-! ### Zones -/

/-- ZONE.DEFINE writes the carried record whole with one more revision and marks the plan stale; ZONE.DELETE undefines a zone
and does the same; each refuses what its rule says. -/
def Obligations.ZoneDefineAndDelete : Prop :=
  ∀ s : State, s.ready →
    (∀ (zone : Byte) (tolerance : BitVec 16) (y : Byte) (members : List (Byte × BitVec 16)),
      32 ≤ zone.toNat ∨ members.length < 2 ∨ 6 < members.length ∨ tolerance = 0 ∨ (∃ m ∈ members, 64 ≤ m.1.toNat)
        ∨ ¬(members.map Prod.fst).Nodup ∨ (y ≠ 255 ∧ y ∉ members.map Prod.fst) →
      declined (.zoneDefine zone tolerance y members) .badValue s)
    ∧ (∀ (zone : Byte) (z : ZoneNo) (b : ZoneBody) (members : List (Byte × BitVec 16)), z.val = zone.toNat → b.lawful →
        2 ≤ b.members.length →
        members = b.members.map (fun m => (BitVec.ofNat 8 m.1.val, BitVec.ofNat 16 m.2)) →
        ((∃ m ∈ b.members, (s.sites.get m.1).state = .vacant ∨ (s.sites.get m.1).state = .retiring) →
          declined (.zoneDefine zone (BitVec.ofNat 16 b.tolerance) (siteOrNone b.yieldMember) members) .noSuch s)
        ∧ ((∀ m ∈ b.members, (s.sites.get m.1).state ≠ .vacant ∧ (s.sites.get m.1).state ≠ .retiring) → ∃ t,
          answers (.zoneDefine zone (BitVec.ofNat 16 b.tolerance) (siteOrNone b.yieldMember) members) (bare .ok)
              [.zones, .solver] s t
            ∧ zoneBecomes z { body := some b, revision := (s.zones.get z).revision + 1 } s t ∧ markedStale s t))
    ∧ (∀ zone : Byte, 32 ≤ zone.toNat → declined (.zoneDelete zone) .badValue s)
    ∧ ∀ (zone : Byte) (z : ZoneNo), z.val = zone.toNat →
      ((s.zones.get z).body = none → declined (.zoneDelete zone) .noSuch s)
      ∧ ((s.zones.get z).body ≠ none → ∃ t, answers (.zoneDelete zone) (bare .ok) [.zones, .solver] s t
        ∧ zoneBecomes z { body := none, revision := (s.zones.get z).revision + 1 } s t ∧ markedStale s t)

/-! ### The solve and the plan -/

/-- A solve starts exactly when the stale flag is yes and the solver IDLE: the flag is cleared and the snapshot taken, which
holds each launch-eligible site's trunk, address, d, trim and u and the reason of every other site. That the start is a step of
its own is the model's choice (logs 5, 8). -/
def Obligations.SolveStartTakesSnapshot : Prop :=
  ∀ s : State,
    (s.solver.stale = true → s.solver.running = none → ∃ t n, completes .solveStart [.solver] s t
      ∧ t.solver = { s.solver with stale := false, running := some { snapshot := n, start := s.time.now } }
      ∧ n.horizon = s.config.horizon ∧ n.calibrated = s.time.cal.answer
      ∧ (∀ k, n.enables.get k = (s.trunks.get k).enable ∧ n.grans.get k = (s.trunks.get k).gran)
      ∧ (∀ z : SnapZone, z ∈ n.zones ↔
          (s.zones.get z.zone).body = some z.body ∧ (s.zones.get z.zone).revision = z.revision)
      ∧ ∀ i, (∀ l e, (s.sites.get i).link = some l → (s.sites.get i).est = some e →
            (s.trunks.get l.trunk).enable = true → (s.sites.get i).phase.launches = true →
            ∃ u, (s.sites.get i).u s.config.growth = some u ∧ n.sites.get i =
              .eligible { trunk := l.trunk, address := l.address, d := e.d, trim := l.trim, u := u })
          ∧ (s.launchEligible i = false → n.sites.get i =
              .ineligible (if (s.sites.get i).state = .vacant then .vacant else .state)))
    ∧ (s.solver.stale = false ∨ s.solver.running ≠ none → hasNoEffect .solveStart s)

/-- A completion publishes the plan of the running solve's snapshot under the next epoch, hands on the ZONE condition, and
vacates each RETIRING site that the plan excludes and no active batch names. The plan holds the snapshot's horizon and
granularities, and for each of its zones the entry the solve gives. That it excludes a site vacated during the solve, which the
snapshot held eligible, is the model's reading (log 35). The next solve starts with it where the flag is stale and the start is
taken before the vacating, whose mark then stands; otherwise the solver is IDLE, the start being a row of its own. The row is
the model's choice (log 8), and which of the two orders R129 allows is taken is a free value that nothing constrains (log 39).
With no solve running there is no completion (log 4). -/
def Obligations.SolveCompletionPublishes : Prop :=
  ∀ s : State,
    (s.solver.running = none → hasNoEffect .solveCompletion s)
    ∧ ∀ v started, s.solver.running = some v →
      started = (s.solver.stale && Config.startsBeforeVacating s.choices) → ∃ t p,
      completes .solveCompletion [.choices, .sites, .noticeOrder, .solver, .attention] s t ∧ t.choices = s.choices + 1
      ∧ t.solver.running = (if started then some { snapshot := s.snapshot, start := s.time.now } else none)
      ∧ t.solver.latest = some p
      ∧ p = (v.snapshot.plan p.epoch).excludeVacant s.sites
      ∧ p.epoch = (match s.solver.latest with
        | some q => if q.epoch < 65535 then q.epoch + 1 else 1
        | none => 1)
      ∧ p.horizon = v.snapshot.horizon ∧ p.grans = v.snapshot.grans ∧ p.provisional = !v.snapshot.calibrated
      ∧ (∀ i, (s.sites.get i).state ≠ .vacant → p.sites.get i = (v.snapshot.plan p.epoch).sites.get i)
      ∧ (∀ i, (s.sites.get i).state = .vacant → ∃ r, p.sites.get i = .excluded r)
      ∧ (∀ kept : SiteNo → Bool, (∀ i, kept i = true ↔ ∀ q, (v.snapshot.plan p.epoch).sites.get i ≠ .muted q) →
          zoneEntriesOf v.snapshot kept p.zones)
      ∧ (t.solver.stale = true ↔ (s.solver.stale = true ∧ started = false) ∨ ∃ i, t.sites.get i ≠ s.sites.get i)
      ∧ conditionsFollow [.zone, .suspect, .holdover, .drift, .notice] s t
      ∧ retireTestRun s t
      ∧ ∀ i, (s.sites.get i).state = .retiring →
          (t.sites.get i = SiteRecord.vacant ↔
            (∃ r, p.sites.get i = .excluded r) ∧ ∀ k, batchNames i (s.slots.get k) = false)

/-- For each eligible site the plan keeps the raw hold H − d + trim and SHORT for a negative one; the quantized hold is the
multiple of g nearest the raw hold, ties up, and 0 below zero; the launch offset d + quantized hold differs from H + trim by at
most the quantization, and is d for a SHORT site. -/
def Obligations.HoldsAndLaunchOffsets : Prop :=
  ∀ (n : Snapshot) (i : SiteNo) (e : EligibleSite) (epoch : Nat) (g : Granularity) (raw : Int) (hold : Nat),
    n.sites.get i = .eligible e → g = n.grans.get e.trunk → raw = (n.horizon : Int) - e.d + e.trim → hold = quantize g raw →
    (∃ p : PlannedSite, p.trunk = e.trunk ∧ p.address = e.address ∧ p.rawHold = raw ∧ (p.short = true ↔ raw < 0)
      ∧ ((n.plan epoch).sites.get i = .launch p ∨ (n.plan epoch).sites.get i = .muted p))
    ∧ (raw < 0 → hold = 0 ∧ launchOffset n.horizon g e = e.d)
    ∧ (0 ≤ raw → g.du ∣ hold ∧ hold = g.du * ((raw.toNat + g.du / 2) / g.du)
      ∧ (n.horizon : Int) + e.trim - ((g.du - 1) / 2 : Nat) ≤ launchOffset n.horizon g e
      ∧ (launchOffset n.horizon g e : Int) ≤ (n.horizon : Int) + e.trim + (g.du / 2 : Nat))
    ∧ launchOffset n.horizon g e = e.d + hold

/-- In a plan a site is MUTED exactly when it is eligible and the yield member of a zone whose first-pass verdict is VIOLATED; a
PROVISIONAL plan mutes none; and no mute turns a zone that passed the first pass into a violated one. The first-pass verdict of
each zone is the one over its eligible members, and the plan holds for each zone its number, its revision, that verdict, and the
final verdict and spread over the eligible members that are not MUTED. -/
def Obligations.MutesComeFromViolations : Prop :=
  ∀ (n : Snapshot) (epoch : Nat),
    (∀ i, (∃ p, (n.plan epoch).sites.get i = .muted p) ↔
      (∃ e, n.sites.get i = .eligible e)
        ∧ ∃ z ∈ n.zones, z.body.yieldMember = some i ∧ (n.firstPass z.body).1 = .violated)
    ∧ ((n.plan epoch).provisional = true → (∀ i p, (n.plan epoch).sites.get i ≠ .muted p)
        ∧ ∀ z ∈ (n.plan epoch).zones, z.firstPass = .indeterminate ∧ z.final = .indeterminate ∧ z.spread = none)
    ∧ (∀ z ∈ (n.plan epoch).zones, z.final = .violated → z.firstPass = .violated)
    ∧ (∀ z ∈ n.zones, zoneJudged n (fun _ => true) z.body (n.firstPass z.body).1 (n.firstPass z.body).2)
    ∧ ∀ kept : SiteNo → Bool, (∀ i, kept i = true ↔ ∀ p, (n.plan epoch).sites.get i ≠ .muted p) →
        zoneEntriesOf n kept (n.plan epoch).zones

/-! ### Batches -/

/-- BATCH.POST: its tests in order, the slip decision, and the acceptance into a FREE slot, dispatched in the same arrival when
the dispatch instant is now, with what a dispatch takes and hands on. Which FREE slot it takes is left open (log 19), and that
it goes before an earlier batch of that instant whose deadline row is still to come is the model's choice (log 23). -/
def Obligations.BatchPostAcceptsOrRefuses : Prop :=
  ∀ (tag : Byte) (requested : Instant) (payload : List Byte) (s : State), s.ready →
    ((∀ i, s.slots.get i ≠ none) → declined (.batchPost tag requested payload) .queueFull s)
    ∧ ((∃ i, s.slots.get i = none) →
      ((∃ i b, s.slots.get i = some b ∧ b.tag = tag) → declined (.batchPost tag requested payload) .tagInUse s)
      ∧ ((∀ i b, s.slots.get i = some b → b.tag ≠ tag) →
        (payload.length = 0 ∨ 192 < payload.length → declined (.batchPost tag requested payload) .badLength s)
        ∧ (1 ≤ payload.length → payload.length ≤ 192 → ∀ lead, lead = (requested - s.time.now).toNat →
          (1073741824 ≤ lead → lead < 2147483648 → declined (.batchPost tag requested payload) .tooFar s)
          ∧ (lead < 1073741824 ∨ 2147483648 ≤ lead → ∀ (slipped : Bool) (actual : Instant),
            (slipped = true ↔ 2147483648 ≤ lead ∨ lead < s.config.horizon) →
            actual = (if slipped then s.time.now + BitVec.ofNat 32 s.config.horizon else requested) →
            ((∃ i b, s.slots.get i = some b ∧ isDone (some b) = false
                ∧ min (actual - b.actual).toNat (b.actual - actual).toNat < s.config.spacing) →
              declined (.batchPost tag requested payload) .spacing s)
            ∧ ((∀ i b, s.slots.get i = some b → isDone (some b) = false →
                s.config.spacing ≤ min (actual - b.actual).toNat (b.actual - actual).toNat) →
              ∃ t i x,
                answers (.batchPost tag requested payload)
                  (if slipped then { code := .slipped, data := bytesOf 4 actual.toNat } else bare .ok)
                  [.trunks, .slots, .attention] s t
                ∧ s.slots.get i = none
                ∧ slotBecomes i (some
                    { tag := tag, posting := s.slots.count Option.isSome, payload := payload, requested := requested
                      actual := actual, dispatch := actual - BitVec.ofNat 32 s.config.horizon, slipped := slipped
                      phase := if actual - BitVec.ofNat 32 s.config.horizon = s.time.now then phaseAfterDispatch x
                        else .pending }) s t
                ∧ conditionsFollow [.report] s t
                ∧ (actual - BitVec.ofNat 32 s.config.horizon ≠ s.time.now → t.trunks = s.trunks)
                ∧ (actual - BitVec.ofNat 32 s.config.horizon = s.time.now →
                    takenAtDispatch slipped s x ∧ framesQueued [i] x s t))))))

/-- BATCH.WITHDRAW frees the slot of a PENDING batch and refuses any other; BATCH.REPORT answers the report of the DONE batch
whose actual launch lies furthest in the past, ties to the lower posting number, its items in the order of R163's table, and
frees its slot. The batches accepted after a freed one move one place down. -/
def Obligations.WithdrawAndReportFreeSlots : Prop :=
  [BatchResult.launched, .slipped, .noPlan, .noSites].map BatchResult.toNat = [0, 1, 2, 3] ∧ ∀ s : State, s.ready →
    (∀ tag : Byte,
      ((∀ i b, s.slots.get i = some b → b.tag ≠ tag) → declined (.batchWithdraw tag) .notFound s)
      ∧ ∀ i b, s.slots.get i = some b → b.tag = tag → (∀ j c, s.slots.get j = some c → c.tag = tag → j = i) →
        (b.phase ≠ .pending → declined (.batchWithdraw tag) .tooLate s)
        ∧ (b.phase = .pending → ∃ t, answers (.batchWithdraw tag) (bare .ok) [.slots, .attention] s t
          ∧ slotFreed i b s t ∧ conditionsFollow [.report] s t))
    ∧ ((∀ i, isDone (s.slots.get i) = false) → declined .batchReport .empty s)
    ∧ ((∃ i, isDone (s.slots.get i) = true) → ∃ t i b x, s.slots.get i = some b ∧ b.phase = .done x
      ∧ (∀ j c, s.slots.get j = some c → isDone (some c) = true →
          (s.time.now - c.actual).toNat < (s.time.now - b.actual).toNat
            ∨ ((s.time.now - c.actual).toNat = (s.time.now - b.actual).toNat ∧ b.posting ≤ c.posting))
      ∧ answers .batchReport
          { code := .ok
            data := [b.tag, byteOf x.report.result.toNat] ++ bytesOf 4 b.requested.toNat ++ bytesOf 4 b.actual.toNat
              ++ bytesOf 4 b.dispatch.toNat ++ bytesOf 2 x.epoch
              ++ [byteOf x.report.sent, byteOf x.report.late, byteOf x.report.dropped, byteOf x.report.lateList.length]
              ++ x.report.lateList.flatMap fun e => byteOf e.1.val :: bytesOf 3 e.2 }
          [.slots, .attention] s t
      ∧ slotFreed i b s t ∧ conditionsFollow [.report] s t)

/-- The deadline of the first PENDING batch that now reaches dispatches it: to DONE with NO_PLAN under the empty plan, to DONE
with NO_SITES when no enabled trunk launches a site, and otherwise to DISPATCHING with one frame queued on each enabled trunk
that launches sites, the sites on disabled trunks counted as dropped. With no PENDING batch due there is no such event; that
the row takes the batches of one instant one by one is the model's choice (logs 4, 23). -/
def Obligations.DispatchDeadlineHandsOnFrames : Prop :=
  ∀ s : State,
    ((∀ i b, s.slots.get i = some b → b.phase = .pending → b.dispatch ≠ s.time.now) → hasNoEffect .dispatchDeadlineExpiry s)
    ∧ ∀ i b, s.slots.get i = some b → b.phase = .pending → b.dispatch = s.time.now →
      (∀ j c, j ≠ i → s.slots.get j = some c → c.phase = .pending → c.dispatch = s.time.now → b.posting < c.posting) →
      ∃ t x, completes .dispatchDeadlineExpiry [.trunks, .slots, .attention] s t
        ∧ conditionsFollow [.report] s t ∧ takenAtDispatch b.slipped s x
        ∧ slotBecomes i (some { b with phase := phaseAfterDispatch x }) s t ∧ framesQueued [i] x s t

/-- The settle deadline of an IN_FLIGHT batch moves it to DONE with its report unchanged, and vacates each RETIRING site that
the latest plan excludes and no other active batch names; at any other instant or in any other state it has no effect
(log 4). -/
def Obligations.SettleDeadlineCompletesReport : Prop :=
  ∀ (i : SlotNo) (s : State),
    ((∀ b x, s.slots.get i = some b → b.phase ≠ .inFlight x s.time.now) → hasNoEffect (.settleDeadlineExpiry i) s)
    ∧ ∀ b x, s.slots.get i = some b → b.phase = .inFlight x s.time.now → ∃ t,
      completes (.settleDeadlineExpiry i) [.sites, .noticeOrder, .solver, .slots, .attention] s t
        ∧ slotBecomes i (some { b with phase := .done x }) s t
        ∧ conditionsFollow [.report, .suspect, .holdover, .drift, .notice] s t
        ∧ t.solver.running = s.solver.running ∧ t.solver.latest = s.solver.latest
        ∧ (t.solver.stale = true ↔ s.solver.stale = true ∨ ∃ j, t.sites.get j ≠ s.sites.get j)
        ∧ retireTestRun s t

/-- The hold and the lateness fixed for a value v = raw hold + k − slip: the multiple of g nearest v with ties up, and lateness
0; below zero hold 0 and lateness −v. Up to 16,100,000 the hold is at most 16,100,050. -/
def Obligations.SentHoldsAreNearestMultiples : Prop :=
  ∀ (g : Granularity) (v : Int) (f : FixedHold), f = fixedHold g v →
    g.du ∣ f.hold ∧ (v < 0 → f.hold = 0 ∧ (f.lateness : Int) = -v)
      ∧ (0 ≤ v → f.lateness = 0 ∧ -((g.du : Int)) < 2 * ((f.hold : Int) - v) ∧ 2 * ((f.hold : Int) - v) ≤ g.du)
      ∧ (v ≤ 16100000 → f.hold ≤ 16100050)

/-! ### The trunks: probing -/

/-- The slot deadline queues a probe request for the next eligible site in turn, or runs on by P when none is eligible; at
another instant or with the timer not RUNNING it has no effect (log 4). -/
def Obligations.SlotDeadlineChoosesInTurn : Prop :=
  ∀ (k : TrunkNo) (s : State),
    ((s.trunks.get k).timer ≠ .running s.time.now → hasNoEffect (.slotDeadlineExpiry k) s)
    ∧ ((s.trunks.get k).timer = .running s.time.now →
      (∀ i, s.nextInTurn k i → ∃ t, completes (.slotDeadlineExpiry k) [.trunks] s t
        ∧ trunkBecomes k { s.trunks.get k with timer := .waiting i } s t)
      ∧ ((∀ i, s.eligibleOn k i = false) → ∃ t, completes (.slotDeadlineExpiry k) [.trunks] s t
        ∧ trunkBecomes k
          { s.trunks.get k with timer := .running (s.time.now + BitVec.ofNat 32 s.config.probePeriod) } s t)
      ∧ ((∃ i, s.eligibleOn k i = true) → ∃ i, s.nextInTurn k i))

/-- A probe request on an idle transmitter with nothing else waiting starts a probe to the site it names while that is eligible,
and otherwise to the next in turn: the probe is outstanding until Q from now, the timer runs to P from now, and in BENCH mode an
echo is due one bench delay from now unless 16 wait. With no eligible site it is dropped and the timer runs by P. While anything
goes before it, it waits (log 4). That the echo being delivered is not among the 16 is the model's reading (log 11). -/
def Obligations.ProbeFrameStartOpensProbe : Prop :=
  ∀ (k : TrunkNo) (s : State) (tr : Trunk), tr = s.trunks.get k →
    ((∀ r, tr.timer ≠ .waiting r) ∨ tr.tx ≠ none ∨ tr.batchQueue ≠ [] ∨ tr.replyQueue ≠ [] →
      hasNoEffect (.probeFrameStart k) s)
    ∧ ∀ r, tr.timer = .waiting r → tr.tx = none → tr.batchQueue = [] → tr.replyQueue = [] →
      (∀ i l, (s.eligibleOn k r = true ∧ i = r) ∨ (s.eligibleOn k r = false ∧ s.nextInTurn k i) →
        (s.sites.get i).link = some l → ∃ t bench, completes (.probeFrameStart k) [.trunks] s t
          ∧ trunkBecomes k
            { tr with
              timer := .running (s.time.now + BitVec.ofNat 32 s.config.probePeriod), lastProbed := some i
              nextSeq := tr.nextSeq + 1, bench := bench
              outstanding := some
                { site := i, trunk := k, address := l.address, seq := tr.nextSeq, instant := s.time.now
                  deadline := s.time.now + BitVec.ofNat 32 s.config.probeTimeout }
              tx := some
                { item := .probe i, frame := probeFrame l.address tr.nextSeq, startRaw := s.time.rawCount } } s t
          ∧ bench.delivering = tr.bench.delivering
          ∧ (s.port.mode = .align ∨ 16 ≤ tr.bench.undelivered.length → bench = tr.bench)
          ∧ (s.port.mode = .bench → tr.bench.undelivered.length < 16 → ∃ before after,
              tr.bench.undelivered = before ++ after
                ∧ bench.undelivered = before
                    ++ { address := BitVec.ofNat 8 l.address, seq := tr.nextSeq
                         due := s.time.now + BitVec.ofNat 32 tr.benchDelay } :: after
                ∧ (∀ e ∈ before, isLater e.due (s.time.now + BitVec.ofNat 32 tr.benchDelay) = false)
                ∧ ∀ e ∈ after.head?, isLater e.due (s.time.now + BitVec.ofNat 32 tr.benchDelay) = true))
      ∧ ((∀ i, s.eligibleOn k i = false) → ∃ t, completes (.probeFrameStart k) [.trunks] s t
        ∧ trunkBecomes k { tr with timer := .running (s.time.now + BitVec.ofNat 32 s.config.probePeriod) } s t)

/-- An ECHO taken that matches no outstanding probe is counted as stray; a matching one closes the probe and, where the site is
still eligible at the place probed, gives the tracker L and T, whose result the site's record then holds. A re-seat, and nothing
else, latches STEP; the plan is marked stale exactly when acquisition completes or what the plan reads of the record changes (a
completion that changes nothing: log 18). In BENCH mode the echo is the responder's own, whole. The bits on RXD and their moment
are the row's (logs 4, 7, 10). -/
def Obligations.EchoTakenReachesTracker : Prop :=
  ∀ (k : TrunkNo) (bits : List Bool) (bytes : List Byte) (s : State) (tr : Trunk) (instant : Instant) (address seq : Byte)
    (t16 : BitVec 16),
    tr = s.trunks.get k → tr.framer = .collecting instant → frameBytes? bits = some bytes → bytes = echoBytes address seq t16 →
    (s.port.mode = .align ∨ ∃ d, tr.bench.delivering = some d ∧ bytes = echoBytes d.echo.address d.echo.seq 0
      ∧ lineTimePassed tr.rate 10 d.startRaw s.time.rawCount = true) →
    ((∀ o, tr.outstanding = some o → o.address ≠ address.toNat ∨ o.seq ≠ seq) →
      ∃ t, completes (.echoTaken k bits) [.trunks] s t
        ∧ trunkBecomes k { tr.frameTaken with strays := min 65535 (tr.strays + 1) } s t)
    ∧ ∀ o, tr.outstanding = some o → o.address = address.toNat → o.seq = seq →
      (s.stillThere o = false → ∃ t, completes (.echoTaken k bits) [.trunks] s t
        ∧ trunkBecomes k { tr.frameTaken with outstanding := none } s t)
      ∧ (s.stillThere o = true → ∀ l, (s.sites.get o.site).link = some l →
        ∃ t, completes (.echoTaken k bits) [.sites, .trunks, .solver, .attention] s t
          ∧ trunkBecomes k { tr.frameTaken with outstanding := none } s t
          ∧ siteBecomes o.site
            (match sample? (instant - o.instant).toNat t16.toNat l.asym with
              | some y => (applySample s.config y (s.sites.get o.site)).record
              | none => applyMiss s.config (s.sites.get o.site)) s t
          ∧ (∀ reseated completed : Bool,
              (reseated, completed) = (match sample? (instant - o.instant).toNat t16.toNat l.asym with
                | some y => ((applySample s.config y (s.sites.get o.site)).reseated,
                    (applySample s.config y (s.sites.get o.site)).completed)
                | none => (false, false)) →
              t.attention.present.step = (s.attention.present.step || reseated)
                ∧ conditionsFollow [.suspect, .holdover, .drift] (s.latchStep reseated) t
                ∧ (t.solver.stale = true ↔ s.solver.stale = true ∨ completed = true
                  ∨ (t.sites.get o.site).planView s.config.growth ≠ (s.sites.get o.site).planView s.config.growth))
          ∧ t.solver.running = s.solver.running ∧ t.solver.latest = s.solver.latest)

/-- The timeout of the outstanding probe closes it and counts a miss at its site where that is still eligible at the place
probed, marking the plan stale exactly when what the plan reads of the record changes, and touches no site otherwise. That the
miss is counted too after a SITE.AMEND of the same du that leaves the site there is the model's reading of R25 (log 36). At any
other instant it has no effect (log 4). -/
def Obligations.ProbeTimeoutCountsMiss : Prop :=
  ∀ (k : TrunkNo) (s : State),
    ((∀ o, (s.trunks.get k).outstanding = some o → o.deadline ≠ s.time.now) → hasNoEffect (.probeTimeoutExpiry k) s)
    ∧ ∀ o, (s.trunks.get k).outstanding = some o → o.deadline = s.time.now →
      (s.stillThere o = false → ∃ t, completes (.probeTimeoutExpiry k) [.trunks] s t
        ∧ trunkBecomes k { s.trunks.get k with outstanding := none } s t)
      ∧ (s.stillThere o = true →
        ∃ t, completes (.probeTimeoutExpiry k) [.sites, .trunks, .solver, .attention] s t
        ∧ trunkBecomes k { s.trunks.get k with outstanding := none } s t
        ∧ siteBecomes o.site (applyMiss s.config (s.sites.get o.site)) s t
        ∧ t.solver.running = s.solver.running ∧ t.solver.latest = s.solver.latest
        ∧ (t.solver.stale = true ↔ s.solver.stale = true
          ∨ (t.sites.get o.site).planView s.config.growth ≠ (s.sites.get o.site).planView s.config.growth)
        ∧ conditionsFollow [.suspect, .holdover, .drift] s t)

/-! ### The trunks: transmitting and receiving -/

/-- A batch frame starts on an idle transmitter, first of those waiting; its holds are fixed from the raw holds, the horizon
correction and the slip, and the frame that leaves carries them. With the transmitter busy or no batch frame waiting there is no
start (log 4). -/
def Obligations.BatchFrameStartFixesHolds : Prop :=
  ∀ (k : TrunkNo) (s : State) (tr : Trunk), tr = s.trunks.get k →
    (tr.tx ≠ none ∨ tr.batchQueue = [] → hasNoEffect (.batchFrameStart k) s)
    ∧ ∀ i rest b x n, tr.tx = none → tr.batchQueue = i :: rest → s.slots.get i = some b → b.phase = .dispatching x n →
      (x.holdLists.map HoldList.trunk).Nodup → (∃ l ∈ x.holdLists, l.trunk = k) →
      ∃ t y, completes (.batchFrameStart k) [.trunks, .slots, .attention] s t
        ∧ slotBecomes i (some { b with phase := .dispatching y n }) s t ∧ conditionsFollow [.report] s t
        ∧ y.epoch = x.epoch ∧ y.planHorizon = x.planHorizon ∧ y.report = x.report
        ∧ (∀ j, j ≠ k → y.entriesOf j = x.entriesOf j)
        ∧ y.entriesOf k = (x.entriesOf k).map (fun e => { e with
            fixed := some (fixedHold tr.gran
              (e.rawHold + ((b.actual - b.dispatch).toNat - x.planHorizon) - (s.time.now - b.dispatch).toNat)) })
        ∧ trunkBecomes k
          { tr with
            batchQueue := rest
            tx := some
              { item := .batch i, frame := batchFrame b.tag (y.entriesOf k) b.payload, startRaw := s.time.rawCount } } s t

/-- A notice reply starts on an idle transmitter when no batch frame waits. The end of a frame leaves the transmitter idle; of a
batch frame it is reported sent, its late entries counted and merged into the late list, which holds the 16 smallest site
numbers in ascending order, each lateness at most 16,777,215; and the batch whose last frame this was goes on to IN_FLIGHT, or
to DONE when its settle deadline is not later than now, where the retire-completion test is run. A frame's end comes no earlier
than the whole part of its length in oscillator ticks, and is due once that length has passed (logs 5, 7). -/
def Obligations.FramesStartAndEnd : Prop :=
  ∀ (k : TrunkNo) (s : State) (tr : Trunk), tr = s.trunks.get k →
    (tr.tx ≠ none ∨ tr.batchQueue ≠ [] ∨ tr.replyQueue = [] → hasNoEffect (.noticeReplyStart k) s)
    ∧ (∀ r rest, tr.tx = none → tr.batchQueue = [] → tr.replyQueue = r :: rest →
        ∃ t, completes (.noticeReplyStart k) [.trunks] s t
          ∧ trunkBecomes k
            { tr with
              replyQueue := rest
              tx := some { item := .reply r.address, frame := replyFrame r, startRaw := s.time.rawCount } } s t)
    ∧ (tr.tx = none → hasNoEffect (.frameEnd k) s)
    ∧ ∀ x, tr.tx = some x →
      ((s.time.rawCount - x.startRaw).toNat < x.frame.length * 10 * 40000000 / tr.rate.bps → hasNoEffect (.frameEnd k) s)
      ∧ (x.frame.length * 10 * 40000000 / tr.rate.bps ≤ (s.time.rawCount - x.startRaw).toNat →
        (x.frame.length * 10 * 40000000 ≤ (s.time.rawCount - x.startRaw).toNat * tr.rate.bps → s.stepDue = true)
        ∧ ((∀ i, x.item ≠ .batch i) → ∃ t, completes (.frameEnd k) [.trunks] s t ∧ trunkBecomes k { tr with tx := none } s t)
        ∧ ∀ i b y n, x.item = .batch i → s.slots.get i = some b → b.phase = .dispatching y n →
          ∃ t z lateList, completes (.frameEnd k) [.sites, .noticeOrder, .trunks, .solver, .slots, .attention] s t
            ∧ trunkBecomes k { tr with tx := none } s t
            ∧ z = { y with report := { y.report with
                sent := y.report.sent + (y.entriesOf k).length
                late := y.report.late + ((y.entriesOf k).filter fun e => decide (0 < e.lateness)).length
                lateList := lateList } }
            ∧ (lateList.Pairwise fun a b => a.1 ≤ b.1)
            ∧ (∃ rest, (lateList ++ rest).Perm (y.report.lateList
                  ++ ((y.entriesOf k).filter fun (e : HoldEntry) => decide (0 < e.lateness)).map fun (e : HoldEntry) =>
                    (e.site, min 16777215 e.lateness))
                ∧ (lateList.length = 16 ∨ lateList.length < 16 ∧ rest = []) ∧ ∀ a ∈ lateList, ∀ b ∈ rest, a.1 ≤ b.1)
            ∧ (1 < n → slotBecomes i (some { b with phase := .dispatching z (n - 1) }) s t
                ∧ onlyChanges [.trunks, .slots, .attention] s t ∧ conditionsFollow [.report] s t)
            ∧ (n = 1 → isLater (b.actual + BitVec.ofNat 32 200000) s.time.now = true →
                slotBecomes i (some { b with phase := .inFlight z (b.actual + BitVec.ofNat 32 200000) }) s t
                  ∧ onlyChanges [.trunks, .slots, .attention] s t ∧ conditionsFollow [.report] s t)
            ∧ (n = 1 → isLater (b.actual + BitVec.ofNat 32 200000) s.time.now = false →
                slotBecomes i (some { b with phase := .done z }) s t
                  ∧ conditionsFollow [.report, .suspect, .holdover, .drift, .notice] s t
                  ∧ t.solver.running = s.solver.running ∧ t.solver.latest = s.solver.latest
                  ∧ (t.solver.stale = true ↔ s.solver.stale = true ∨ ∃ j, t.sites.get j ≠ s.sites.get j)
                  ∧ retireTestRun s t))

/-- The receive framer in ALIGN mode: a delimiter found while hunting, C5h and the next byte 3Ah, begins a frame whose instant
is what now was at the start bit of its C5h, 19 bit times to four byte times ago, whatever its stop bits (log 37); a frame with
a stop bit at space, a bad length, a bad type or a check failure, or a rest at mark of more than two byte times, is discarded
and counted, and the framer hunts again. Otherwise these events have no effect (log 4), and the bits on RXD and the ticks are
the rows' (logs 10, 31). -/
def Obligations.FramerFindsAndDiscards : Prop :=
  ∀ (k : TrunkNo) (s : State) (tr : Trunk), tr = s.trunks.get k →
    (∀ (line : List (Bool × Nat)) (seen : List (Byte × Nat)) (bytes : List Byte),
      seen = ((lineBytes 0 line).map fun b => (b.value, b.start)) → bytes = seen.map Prod.fst →
      (∀ earlier ticks rest, seen = earlier ++ [(0xC5, ticks), (0x3A, rest)] →
        (∀ instant, s.port.mode = .align → tr.framer = .hunting →
          (∀ a c, earlier.map Prod.fst ++ [0xC5] ≠ a ++ [0xC5, 0x3A] ++ c) → s.time.nowAt ticks = some instant →
          19 * 40000000 ≤ ticks * tr.rate.bps → ticks * tr.rate.bps ≤ 40 * 40000000 →
          ∃ t, completes (.delimiterFound k line) [.trunks] s t
            ∧ trunkBecomes k { tr with framer := .collecting instant } s t)
        ∧ (ticks * tr.rate.bps < 19 * 40000000 ∨ 40 * 40000000 < ticks * tr.rate.bps ∨ s.time.nowAt ticks = none →
          hasNoEffect (.delimiterFound k line) s))
      ∧ (s.port.mode = .bench ∨ tr.framer ≠ .hunting ∨ (∀ earlier, bytes ≠ earlier ++ [0xC5, 0x3A])
          ∨ (∃ a c, c ≠ [] ∧ bytes = a ++ [0xC5, 0x3A] ++ c) → hasNoEffect (.delimiterFound k line) s))
    ∧ (∀ (bits : List Bool) (stop : Bool),
      (∀ instant bytes, s.port.mode = .align → tr.framer = .collecting instant → openFrameBytes? bits = some bytes →
        framerDiscards bytes stop → ∃ t, completes (.receiveFrameDiscard k bits stop) [.trunks] s t
          ∧ trunkBecomes k { tr with framer := .hunting, discards := min 65535 (tr.discards + 1) } s t)
      ∧ (s.port.mode = .bench ∨ (∀ instant, tr.framer ≠ .collecting instant)
          ∨ (∀ bytes, openFrameBytes? bits = some bytes → ¬framerDiscards bytes stop) →
        hasNoEffect (.receiveFrameDiscard k bits stop) s))
    ∧ ∀ ticks : Nat,
      (∀ instant, s.port.mode = .align → tr.framer = .collecting instant → 20 * 40000000 < ticks * tr.rate.bps →
        ∃ t, completes (.receiveGap k ticks) [.trunks] s t
          ∧ trunkBecomes k { tr with framer := .hunting, discards := min 65535 (tr.discards + 1) } s t)
      ∧ (s.port.mode = .bench ∨ (∀ instant, tr.framer ≠ .collecting instant) ∨ ticks * tr.rate.bps ≤ 20 * 40000000 →
        hasNoEffect (.receiveGap k ticks) s)

/-- The bench responder of an enabled trunk in BENCH mode begins to deliver its first echo once that is due and no other is
being delivered; that the framer then collects it at once is the model's choice (log 11). Otherwise there is no delivery (log
4). -/
def Obligations.BenchEchoIsDeliveredWhenDue : Prop :=
  ∀ (k : TrunkNo) (s : State) (tr : Trunk), tr = s.trunks.get k →
    (s.port.mode = .align ∨ tr.enable = false ∨ tr.bench.delivering ≠ none ∨ tr.bench.undelivered = [] →
      hasNoEffect (.benchEchoDelivery k) s)
    ∧ ∀ e rest, tr.bench.undelivered = e :: rest →
      (isLater e.due s.time.now = true → hasNoEffect (.benchEchoDelivery k) s)
      ∧ (s.port.mode = .bench → tr.enable = true → tr.bench.delivering = none → isLater e.due s.time.now = false →
        ∃ t, completes (.benchEchoDelivery k) [.trunks] s t
          ∧ trunkBecomes k
            { tr with
              framer := .collecting s.time.now
              bench :=
                { undelivered := rest
                  delivering := some { echo := e, instant := s.time.now, startRaw := s.time.rawCount } } } s t)

/-! ### Notices -/

/-- A NOTICE taken with 8 replies waiting is discarded and counted. Otherwise its reply is queued: UNKNOWN when its kind is
unknown or no site of the trunk and address takes notices, BUSY when that site's slot is occupied, both changing no site; and
TAKEN when the notice is stored, the site joins the notice order, and the kind's effect is applied, which marks the plan stale
exactly when it changes the site's state. The bits on RXD are the row's (log 10). -/
def Obligations.NoticeArrivalIsJudged : Prop :=
  ∀ (k : TrunkNo) (bits : List Bool) (s : State) (tr : Trunk) (instant : Instant) (address kind seq : Byte)
    (detail : BitVec 16),
    tr = s.trunks.get k → tr.framer = .collecting instant → s.port.mode = .align →
    frameBytes? bits = some (noticeBytes address kind detail seq) →
    (8 ≤ tr.replyQueue.length → ∃ t, completes (.noticeArrival k bits) [.trunks] s t
      ∧ trunkBecomes k { tr with framer := .hunting, discards := min 65535 (tr.discards + 1) } s t)
    ∧ (tr.replyQueue.length < 8 →
      (noticeKind? kind = none
          ∨ (∀ i, (s.sites.get i).isAt k address.toNat = true → (s.sites.get i).state.takesNotices = false) →
        ∃ t, completes (.noticeArrival k bits) [.trunks] s t
          ∧ trunkBecomes k
            { tr with
              framer := .hunting
              replyQueue := tr.replyQueue ++ [{ address := address, seq := seq, decision := .unknown }] } s t)
      ∧ ∀ i n, noticeKind? kind = some n → (s.sites.get i).isAt k address.toNat = true →
        (s.sites.get i).state.takesNotices = true →
        (∀ j, j ≠ i → (s.sites.get j).state ≠ .vacant → (s.sites.get j).isAt k address.toNat = false) →
        ((s.sites.get i).notice ≠ none → ∃ t, completes (.noticeArrival k bits) [.trunks] s t
          ∧ trunkBecomes k
            { tr with
              framer := .hunting
              replyQueue := tr.replyQueue ++ [{ address := address, seq := seq, decision := .busy }] } s t)
        ∧ ((s.sites.get i).notice = none →
          ∃ t r, completes (.noticeArrival k bits) [.sites, .noticeOrder, .trunks, .solver, .attention] s t
            ∧ trunkBecomes k
              { tr with
                framer := .hunting
                replyQueue := tr.replyQueue ++ [{ address := address, seq := seq, decision := .taken }] } s t
            ∧ r = { s.sites.get i with notice := some { kind := n, detail := detail, instant := instant } }
            ∧ siteBecomes i
              (match n with
                | .keyfail | .paFault => r
                | .siteRestart => if r.state = .suspended then r else { r with phase := .probing [], m := 0 }
                | .serviceOff => { r with phase := .suspended true, m := if r.state = .suspended then r.m else 0 }
                | .serviceOn => if r.phase = .suspended true then { r with phase := .probing [], m := 0 } else r) s t
            ∧ t.noticeOrder = s.noticeOrder ++ [i]
            ∧ t.solver =
              { s.solver with stale := s.solver.stale || decide ((t.sites.get i).state ≠ (s.sites.get i).state) }
            ∧ conditionsFollow [.suspect, .holdover, .drift, .notice] s t))

/-! ### The tracker -/

/-- A sample is half of L − T + A rounded up; the echo result is implausible when that number is negative or 33,554,431 or more,
and then does exactly what a timeout result does at the same record. A is the one the record holds then. -/
def Obligations.SamplesAreHalfTheLoop : Prop :=
  ∀ (i : SiteNo) (loop turnaround : Nat) (l : Link) (s : State) (x : Int), (s.sites.get i).link = some l →
    x = (loop : Int) - turnaround + l.asym →
    (x < 0 ∨ 33554431 ≤ x → s.echoResult i loop turnaround = s.timeoutResult i)
    ∧ (0 ≤ x → x < 33554431 → ∃ (y : Nat) (u : State), s.echoResult i loop turnaround = u
        ∧ (y : Int) = (x + 1) / 2 ∧ y ≤ 16777215
        ∧ siteBecomes i (applySample s.config y (s.sites.get i)).record s u)

/-- An accepted sample moves d by δ / 8 to the nearest whole number with halves away from zero, so that the new d lies between d
and the sample; and moves s by (|δ| − s) / 8 truncated toward zero, limited to 65,535. m and h return to 0, the jump list is
emptied, and the SUSPECT test follows. -/
def Obligations.AcceptedSampleMovesEstimate : Prop :=
  ∀ (p : Params) (r : SiteRecord) (e : Estimate) (list : List Nat) (h y d' s' : Nat) (delta : Int),
    r.phase = .aligned list ∨ r.phase = .holdover list h → r.est = some e → delta = (y : Int) - e.d →
    delta.natAbs ≤ p.jumpLimit → d' = stepDelay e.d y → s' = stepDeviation r.s e.d y →
    (2 * ((8 * ((d' : Int) - e.d) - delta).natAbs) ≤ 8)
    ∧ (delta.natAbs % 8 = 4 → 8 * ((d' : Int) - e.d).natAbs = delta.natAbs + 4)
    ∧ min e.d y ≤ d' ∧ d' ≤ max e.d y
    ∧ (s' : Int) = min 65535 (r.s + Int.tdiv ((delta.natAbs : Int) - r.s) 8)
    ∧ (applySample p y r).reseated = false ∧ (applySample p y r).completed = false
    ∧ ∀ tracked : SiteRecord,
      tracked = { r with
        phase := .aligned [], est := some { d := d', reported := e.reported }, s := s', m := 0
        drift := decide (p.driftThreshold ≠ 0 ∧ p.driftThreshold < ((d' : Int) - e.reported).natAbs) } →
      (applySample p y r).record = if p.ceiling < s' then { tracked with phase := .suspect [] } else tracked

/-- A sample at a site in PROBING or SUSPECT joins the acquisition list, of which the four latest are kept, and sets m to 0.
Four samples within J complete: d is their rounded mean, s their mean deviation from it, the reported delay is d, and the site
enters ALIGNED, or SUSPECT when s exceeds U. Until then nothing that the plan reads changes. -/
def Obligations.AcquisitionCompletes : Prop :=
  ∀ (p : Params) (r : SiteRecord) (list : List Nat) (y : Nat) (samples : List Nat),
    r.phase = .probing list ∨ r.phase = .suspect list → list.length ≤ 4 →
    samples = (list ++ [y]).drop ((list ++ [y]).length - 4) →
    (samples.length < 4 ∨ (∃ a ∈ samples, ∃ b ∈ samples, a + p.jumpLimit < b) →
      (applySample p y r).record
          = { r with m := 0, phase := if r.state = .probing then .probing samples else .suspect samples }
        ∧ (applySample p y r).completed = false ∧ (applySample p y r).reseated = false
        ∧ (applySample p y r).record.planView p.growth = r.planView p.growth)
    ∧ (samples.length = 4 → (∀ a ∈ samples, ∀ b ∈ samples, b ≤ a + p.jumpLimit) →
      ∃ d s' aligned, d = (samples.sum + 2) / 4
        ∧ s' = min 65535 ((samples.map fun v => ((v : Int) - d).natAbs).sum / 4)
        ∧ aligned = { r with
            phase := .aligned [], est := some { d := d, reported := d }, s := s', m := 0, drift := false }
        ∧ (applySample p y r).record = (if p.ceiling < s' then { aligned with phase := .suspect [] } else aligned)
        ∧ (applySample p y r).completed = true ∧ (applySample p y r).reseated = false)

/-- A sample beyond J of d joins the jump list, of which the three latest are kept, and sets m to 0. Three candidates within J
re-seat: d is their rounded mean, s their mean deviation from it, the reported delay stays, and the site is ALIGNED, or SUSPECT
when s exceeds U. Until then nothing that the plan reads changes. -/
def Obligations.JumpCandidatesReseat : Prop :=
  ∀ (p : Params) (r : SiteRecord) (e : Estimate) (list : List Nat) (h y : Nat) (candidates : List Nat),
    r.phase = .aligned list ∨ r.phase = .holdover list h → list.length ≤ 3 → r.est = some e →
    p.jumpLimit < ((y : Int) - e.d).natAbs → (∀ u, r.u p.growth = some u → u ≤ p.ceiling) →
    candidates = (list ++ [y]).drop ((list ++ [y]).length - 3) →
    (candidates.length < 3 ∨ (∃ a ∈ candidates, ∃ b ∈ candidates, a + p.jumpLimit < b) →
      (applySample p y r).record
          = { r with m := 0, phase := if r.state = .aligned then .aligned candidates else .holdover candidates r.h }
        ∧ (applySample p y r).reseated = false ∧ (applySample p y r).completed = false
        ∧ (applySample p y r).record.planView p.growth = r.planView p.growth)
    ∧ (candidates.length = 3 → (∀ a ∈ candidates, ∀ b ∈ candidates, b ≤ a + p.jumpLimit) →
      ∃ d s' seated, d = (candidates.sum + 1) / 3
        ∧ s' = min 65535 ((candidates.map fun v => ((v : Int) - d).natAbs).sum / 3)
        ∧ seated = { r with
            phase := .aligned [], est := some { d := d, reported := e.reported }, s := s', m := 0
            drift := decide (p.driftThreshold ≠ 0 ∧ p.driftThreshold < ((d : Int) - e.reported).natAbs) }
        ∧ (applySample p y r).record = (if p.ceiling < s' then { seated with phase := .suspect [] } else seated)
        ∧ (applySample p y r).reseated = true ∧ (applySample p y r).completed = false)

/-- A miss raises m, held at 3. The third at an ALIGNED site enters HOLDOVER with h 0 and the jump list kept; one in HOLDOVER
raises h, held at 65,535, and sends the site to SUSPECT when s + G × h exceeds U. d, s and the lists stay. What the plan reads
changes with the third miss in ALIGNED, and in HOLDOVER exactly when G × h does; no other miss changes it. -/
def Obligations.MissesLeadToHoldover : Prop :=
  ∀ (p : Params) (r : SiteRecord), (∀ u, r.u p.growth = some u → u ≤ p.ceiling) →
    (r.state = .probing ∨ r.state = .suspect → applyMiss p r = { r with m := min 3 (r.m + 1) }
      ∧ (applyMiss p r).planView p.growth = r.planView p.growth)
    ∧ (∀ list, r.phase = .aligned list → r.m ≤ 1 → applyMiss p r = { r with m := r.m + 1 }
      ∧ (applyMiss p r).planView p.growth = r.planView p.growth)
    ∧ (∀ list, r.phase = .aligned list → r.m = 2 → applyMiss p r = { r with m := 3, phase := .holdover list 0 }
      ∧ (applyMiss p r).planView p.growth ≠ r.planView p.growth)
    ∧ (∀ list h h', r.phase = .holdover list h → h' = min 65535 (h + 1) →
        applyMiss p r = { r with
          m := min 3 (r.m + 1), phase := if p.ceiling < r.s + p.growth * h' then .suspect [] else .holdover list h' }
        ∧ ((applyMiss p r).planView p.growth ≠ r.planView p.growth ↔ p.growth * h' ≠ p.growth * h))

/-! ### Laws that every step keeps -/

/-- The values that reset leaves, and every law below at that state. The levels of the CAL and RESET pins are the model's
choice (log 2), as is that the state is the one while power-on reset is held (log 1); two fields of the time base (log 10) and
the count of free choices (log 39) are the model's own. -/
def Obligations.ResetStateHoldsValuesAndLaws : Prop :=
  State.reset.held = true ∧ State.reset.choices = 0
    ∧ (State.reset.time.now = 0 ∧ State.reset.time.rawCount = 0 ∧ State.reset.time.fraction = 0
        ∧ State.reset.time.f = 4194304 ∧ State.reset.time.cal = .uncalibrated ∧ State.reset.time.last = none
        ∧ State.reset.time.sinceF = 0 ∧ State.reset.time.fBefore = none)
    ∧ (∀ i, State.reset.sites.get i =
        { phase := .vacant, link := none, est := none, s := 0, m := 0, drift := false, notice := none })
    ∧ State.reset.noticeOrder = []
    ∧ (∀ k, ∃ tr, State.reset.trunks.get k = tr ∧ tr.enable = false ∧ tr.rate = .r9600 ∧ tr.gran = .du1
        ∧ tr.benchDelay = 0 ∧ tr.timer = .stopped ∧ tr.lastProbed = none ∧ tr.nextSeq = 0 ∧ tr.outstanding = none
        ∧ tr.batchQueue = [] ∧ tr.replyQueue = [] ∧ tr.tx = none ∧ tr.framer = .idle ∧ tr.discards = 0 ∧ tr.strays = 0
        ∧ tr.bench.undelivered = [] ∧ tr.bench.delivering = none)
    ∧ (∀ z, State.reset.zones.get z = { body := none, revision := 0 })
    ∧ State.reset.solver = { stale := false, running := none, latest := none }
    ∧ (∀ i, State.reset.slots.get i = none)
    ∧ (∀ c, State.reset.attention.present.has c = false ∧ State.reset.attention.mask.has c = false)
    ∧ State.reset.attention.calOutcome = none
    ∧ State.reset.config =
        { horizon := 1000000, jumpLimit := 500, probePeriod := 1000000, probeTimeout := 200000, growth := 10
          ceiling := 2000, spacing := 100000, driftThreshold := 0 }
    ∧ (State.reset.port.op = .uninit ∧ State.reset.port.mode = .align ∧ State.reset.port.rdy = false
        ∧ State.reset.port.response = some { code := .ok, data := [] } ∧ State.reset.port.frameOpen = false)
    ∧ State.reset.time.lawful ∧ State.reset.config.lawful ∧ sitesInRange State.reset ∧ uncertaintyBounded State.reset
    ∧ driftLaw State.reset ∧ placesDistinct State.reset ∧ vacantLaw State.reset ∧ noticeLaw State.reset ∧ zoneLaw State.reset
    ∧ slotLaw State.reset ∧ causesAgree State.reset ∧ quietOutsideReady State.reset

/-- F stays in 4,112,063..4,279,902 and is 4,194,304 whenever the part is uncalibrated, the fraction stays below 2^24, every
operating parameter stays in its range, and Q below P. -/
def Obligations.EveryStepKeepsClockAndParameters : Prop :=
  ∀ s t : State, step s = .next t → (s.time.lawful → t.time.lawful) ∧ (s.config.lawful → t.config.lawful)

/-- Every site record keeps its fields in their ranges and present in the states that have them, u at most U in ALIGNED and
HOLDOVER, m at most 2 in ALIGNED, and drift pending what the drift rule says; no two sites that are not VACANT share trunk and
address; and a VACANT site stays EXCLUDED in the latest plan and named in no hold list of an active batch. That the plan which a
running solve publishes keeps this for a site vacated during the solve is the model's reading (log 35). -/
def Obligations.EveryStepKeepsSiteRecordsLawful : Prop :=
  ∀ s t : State, sitesInRange s → step s = .next t →
    sitesInRange t ∧ (uncertaintyBounded s → uncertaintyBounded t) ∧ (driftLaw s → driftLaw t)
      ∧ (placesDistinct s → placesDistinct t) ∧ (vacantLaw s → vacantLaw t)

/-- The notice order list holds exactly the sites whose notice slot is occupied, each once, after every step. -/
def Obligations.EveryStepKeepsTheNoticeOrder : Prop :=
  ∀ s t : State, noticeLaw s → step s = .next t → noticeLaw t

/-- Every defined zone keeps at most six distinct members, none of them VACANT or RETIRING, and a yield member that is one of
them or none; the tags of occupied batch slots stay distinct, and their posting numbers distinct and below their count. -/
def Obligations.EveryStepKeepsZonesAndSlotsLawful : Prop :=
  ∀ s t : State, step s = .next t → (zoneLaw s → zoneLaw t) ∧ (slotLaw s → slotLaw t)

/-- Outside READY the blocks stay at their reset values, and in every state each condition is present exactly while its source
holds it. That in TESTING the site, zone, plan and batch stores too hold their reset values, while R189 writes test patterns
into them and reads them back, is the model's reading (log 34). -/
def Obligations.EveryStepKeepsConditionsAtTheirSources : Prop :=
  ∀ s t : State, quietOutsideReady s → causesAgree s → step s = .next t → quietOutsideReady t ∧ causesAgree t

/-- What a plan reads, but for the granularities, can change only together with a stale mark: after every command but those
that clear the part, and the start of a solve itself, the flag is yes wherever these inputs differ. A plan reads the
granularities too, and R70 leaves their change unmarked on a trunk that is not enabled or disabled by it. -/
def Obligations.ChangedPlanInputsAreMarkedStale : Prop :=
  ∀ (c : Instr) (s t : State), resets c = false → c ≠ .solveStart → exec c s = .next t → planInputs t ≠ planInputs s →
    t.solver.stale = true
end

