-- ==== Sys2Proof/Laws/Table.lean ====
section
/-! SUPPORT. What reading a table gives after each way of making one. -/

namespace Sys2Proof

variable {α β : Type} {n : Nat}

/-- A table is its records. -/
theorem Table.ext_get {t u : Table α n} (h : ∀ i, t.get i = u.get i) : t = u := by
  obtain ⟨l, hl⟩ := t
  obtain ⟨l', hl'⟩ := u
  congr
  refine List.ext_getElem (by omega) fun i h1 h2 => ?_
  exact h ⟨i, by omega⟩

@[simp] theorem Table.get_tabulate (f : Fin n → α) (i : Fin n) : (Table.tabulate f).get i = f i := by
  simp [Table.get, Table.tabulate]

@[simp] theorem Table.get_replicate (a : α) (i : Fin n) : (Table.replicate n a).get i = a := by
  simp [Table.get, Table.replicate]

@[simp] theorem Table.get_mapIdx (f : Fin n → α → β) (t : Table α n) (i : Fin n) :
    (t.mapIdx f).get i = f i (t.get i) := by
  simp [Table.mapIdx]

theorem Table.get_set (t : Table α n) (i j : Fin n) (a : α) : (t.set i a).get j = if j = i then a else t.get j := by
  unfold Table.get Table.set
  simp only [List.getElem_set]
  by_cases h : j = i
  · simp [h]
  · have : ¬ i.val = j.val := fun e => h (Fin.ext e.symm)
    simp [h, this]

@[simp] theorem Table.get_set_self (t : Table α n) (i : Fin n) (a : α) : (t.set i a).get i = a := by
  simp [Table.get_set]

@[simp] theorem Table.get_set_ne (t : Table α n) {i j : Fin n} (h : j ≠ i) (a : α) : (t.set i a).get j = t.get j := by
  simp [Table.get_set, h]

/-- Writing back what a table holds changes nothing. -/
@[simp] theorem Table.set_get (t : Table α n) (i : Fin n) : t.set i (t.get i) = t := by
  refine Table.ext_get fun j => ?_
  by_cases h : j = i
  · simp [h]
  · simp [h]

/-- The records of a table as a list of its reads. -/
theorem Table.cells_eq (t : Table α n) : t.cells = (List.finRange n).map t.get := by
  refine List.ext_getElem (by simp [t.size]) fun i h1 h2 => ?_
  simp [Table.get]

theorem Table.any_iff (t : Table α n) (p : α → Bool) : t.any p = true ↔ ∃ i, p (t.get i) = true := by
  simp [Table.any, Table.cells_eq t]

theorem Table.any_eq_false (t : Table α n) (p : α → Bool) : t.any p = false ↔ ∀ i, p (t.get i) = false := by
  simp [Table.any, Table.cells_eq t]

/-- How many records satisfy `p`, as the numbers that do. -/
theorem Table.count_eq (t : Table α n) (p : α → Bool) :
    t.count p = ((List.finRange n).filter fun i => p (t.get i)).length := by
  simp only [Table.count, Table.cells_eq t, List.countP_eq_length_filter, List.filter_map, List.length_map]
  rfl

end Sys2Proof
end

