-- ==== Sys2Proof/Laws/State.lean ====
section
/-! SUPPORT. What each shared update leaves of State, one lemma a field: true by rfl, so that no proof unfolds a record update.
The lemmas after them say what the updated fields hold. -/

namespace Sys2Proof.Machine

/-! ### countChoice -/

@[simp] theorem State.countChoice_pending (s : State) : s.countChoice.pending = s.pending := rfl
@[simp] theorem State.countChoice_resetUnit (s : State) : s.countChoice.resetUnit = s.resetUnit := rfl
@[simp] theorem State.countChoice_time (s : State) : s.countChoice.time = s.time := rfl
@[simp] theorem State.countChoice_sites (s : State) : s.countChoice.sites = s.sites := rfl
@[simp] theorem State.countChoice_noticeOrder (s : State) : s.countChoice.noticeOrder = s.noticeOrder := rfl
@[simp] theorem State.countChoice_trunks (s : State) : s.countChoice.trunks = s.trunks := rfl
@[simp] theorem State.countChoice_zones (s : State) : s.countChoice.zones = s.zones := rfl
@[simp] theorem State.countChoice_solver (s : State) : s.countChoice.solver = s.solver := rfl
@[simp] theorem State.countChoice_slots (s : State) : s.countChoice.slots = s.slots := rfl
@[simp] theorem State.countChoice_attention (s : State) : s.countChoice.attention = s.attention := rfl
@[simp] theorem State.countChoice_config (s : State) : s.countChoice.config = s.config := rfl
@[simp] theorem State.countChoice_port (s : State) : s.countChoice.port = s.port := rfl
@[simp] theorem State.countChoice_choices (s : State) : s.countChoice.choices = s.choices + 1 := rfl

/-! ### markStale -/

@[simp] theorem State.markStale_pending (s : State) : s.markStale.pending = s.pending := rfl
@[simp] theorem State.markStale_resetUnit (s : State) : s.markStale.resetUnit = s.resetUnit := rfl
@[simp] theorem State.markStale_choices (s : State) : s.markStale.choices = s.choices := rfl
@[simp] theorem State.markStale_time (s : State) : s.markStale.time = s.time := rfl
@[simp] theorem State.markStale_sites (s : State) : s.markStale.sites = s.sites := rfl
@[simp] theorem State.markStale_noticeOrder (s : State) : s.markStale.noticeOrder = s.noticeOrder := rfl
@[simp] theorem State.markStale_trunks (s : State) : s.markStale.trunks = s.trunks := rfl
@[simp] theorem State.markStale_zones (s : State) : s.markStale.zones = s.zones := rfl
@[simp] theorem State.markStale_slots (s : State) : s.markStale.slots = s.slots := rfl
@[simp] theorem State.markStale_attention (s : State) : s.markStale.attention = s.attention := rfl
@[simp] theorem State.markStale_config (s : State) : s.markStale.config = s.config := rfl
@[simp] theorem State.markStale_port (s : State) : s.markStale.port = s.port := rfl

/-! ### markStaleIf -/

@[simp] theorem State.markStaleIf_pending (b : Bool) (s : State) : (s.markStaleIf b).pending = s.pending := rfl
@[simp] theorem State.markStaleIf_resetUnit (b : Bool) (s : State) : (s.markStaleIf b).resetUnit = s.resetUnit := rfl
@[simp] theorem State.markStaleIf_choices (b : Bool) (s : State) : (s.markStaleIf b).choices = s.choices := rfl
@[simp] theorem State.markStaleIf_time (b : Bool) (s : State) : (s.markStaleIf b).time = s.time := rfl
@[simp] theorem State.markStaleIf_sites (b : Bool) (s : State) : (s.markStaleIf b).sites = s.sites := rfl
@[simp] theorem State.markStaleIf_noticeOrder (b : Bool) (s : State) : (s.markStaleIf b).noticeOrder = s.noticeOrder := rfl
@[simp] theorem State.markStaleIf_trunks (b : Bool) (s : State) : (s.markStaleIf b).trunks = s.trunks := rfl
@[simp] theorem State.markStaleIf_zones (b : Bool) (s : State) : (s.markStaleIf b).zones = s.zones := rfl
@[simp] theorem State.markStaleIf_slots (b : Bool) (s : State) : (s.markStaleIf b).slots = s.slots := rfl
@[simp] theorem State.markStaleIf_attention (b : Bool) (s : State) : (s.markStaleIf b).attention = s.attention := rfl
@[simp] theorem State.markStaleIf_config (b : Bool) (s : State) : (s.markStaleIf b).config = s.config := rfl
@[simp] theorem State.markStaleIf_port (b : Bool) (s : State) : (s.markStaleIf b).port = s.port := rfl

/-! ### latchCal -/

@[simp] theorem State.latchCal_pending (o : CalOutcome) (s : State) : (s.latchCal o).pending = s.pending := rfl
@[simp] theorem State.latchCal_resetUnit (o : CalOutcome) (s : State) : (s.latchCal o).resetUnit = s.resetUnit := rfl
@[simp] theorem State.latchCal_choices (o : CalOutcome) (s : State) : (s.latchCal o).choices = s.choices := rfl
@[simp] theorem State.latchCal_time (o : CalOutcome) (s : State) : (s.latchCal o).time = s.time := rfl
@[simp] theorem State.latchCal_sites (o : CalOutcome) (s : State) : (s.latchCal o).sites = s.sites := rfl
@[simp] theorem State.latchCal_noticeOrder (o : CalOutcome) (s : State) : (s.latchCal o).noticeOrder = s.noticeOrder := rfl
@[simp] theorem State.latchCal_trunks (o : CalOutcome) (s : State) : (s.latchCal o).trunks = s.trunks := rfl
@[simp] theorem State.latchCal_zones (o : CalOutcome) (s : State) : (s.latchCal o).zones = s.zones := rfl
@[simp] theorem State.latchCal_solver (o : CalOutcome) (s : State) : (s.latchCal o).solver = s.solver := rfl
@[simp] theorem State.latchCal_slots (o : CalOutcome) (s : State) : (s.latchCal o).slots = s.slots := rfl
@[simp] theorem State.latchCal_config (o : CalOutcome) (s : State) : (s.latchCal o).config = s.config := rfl
@[simp] theorem State.latchCal_port (o : CalOutcome) (s : State) : (s.latchCal o).port = s.port := rfl

/-! ### latchStep -/

@[simp] theorem State.latchStep_pending (b : Bool) (s : State) : (s.latchStep b).pending = s.pending := rfl
@[simp] theorem State.latchStep_resetUnit (b : Bool) (s : State) : (s.latchStep b).resetUnit = s.resetUnit := rfl
@[simp] theorem State.latchStep_choices (b : Bool) (s : State) : (s.latchStep b).choices = s.choices := rfl
@[simp] theorem State.latchStep_time (b : Bool) (s : State) : (s.latchStep b).time = s.time := rfl
@[simp] theorem State.latchStep_sites (b : Bool) (s : State) : (s.latchStep b).sites = s.sites := rfl
@[simp] theorem State.latchStep_noticeOrder (b : Bool) (s : State) : (s.latchStep b).noticeOrder = s.noticeOrder := rfl
@[simp] theorem State.latchStep_trunks (b : Bool) (s : State) : (s.latchStep b).trunks = s.trunks := rfl
@[simp] theorem State.latchStep_zones (b : Bool) (s : State) : (s.latchStep b).zones = s.zones := rfl
@[simp] theorem State.latchStep_solver (b : Bool) (s : State) : (s.latchStep b).solver = s.solver := rfl
@[simp] theorem State.latchStep_slots (b : Bool) (s : State) : (s.latchStep b).slots = s.slots := rfl
@[simp] theorem State.latchStep_config (b : Bool) (s : State) : (s.latchStep b).config = s.config := rfl
@[simp] theorem State.latchStep_port (b : Bool) (s : State) : (s.latchStep b).port = s.port := rfl

/-! ### setZoneCause -/

@[simp] theorem State.setZoneCause_pending (b : Bool) (s : State) : (s.setZoneCause b).pending = s.pending := rfl
@[simp] theorem State.setZoneCause_resetUnit (b : Bool) (s : State) : (s.setZoneCause b).resetUnit = s.resetUnit := rfl
@[simp] theorem State.setZoneCause_choices (b : Bool) (s : State) : (s.setZoneCause b).choices = s.choices := rfl
@[simp] theorem State.setZoneCause_time (b : Bool) (s : State) : (s.setZoneCause b).time = s.time := rfl
@[simp] theorem State.setZoneCause_sites (b : Bool) (s : State) : (s.setZoneCause b).sites = s.sites := rfl
@[simp] theorem State.setZoneCause_noticeOrder (b : Bool) (s : State) : (s.setZoneCause b).noticeOrder = s.noticeOrder := rfl
@[simp] theorem State.setZoneCause_trunks (b : Bool) (s : State) : (s.setZoneCause b).trunks = s.trunks := rfl
@[simp] theorem State.setZoneCause_zones (b : Bool) (s : State) : (s.setZoneCause b).zones = s.zones := rfl
@[simp] theorem State.setZoneCause_solver (b : Bool) (s : State) : (s.setZoneCause b).solver = s.solver := rfl
@[simp] theorem State.setZoneCause_slots (b : Bool) (s : State) : (s.setZoneCause b).slots = s.slots := rfl
@[simp] theorem State.setZoneCause_config (b : Bool) (s : State) : (s.setZoneCause b).config = s.config := rfl
@[simp] theorem State.setZoneCause_port (b : Bool) (s : State) : (s.setZoneCause b).port = s.port := rfl

/-! ### setFaultCause -/

@[simp] theorem State.setFaultCause_pending (b : Bool) (s : State) : (s.setFaultCause b).pending = s.pending := rfl
@[simp] theorem State.setFaultCause_resetUnit (b : Bool) (s : State) : (s.setFaultCause b).resetUnit = s.resetUnit := rfl
@[simp] theorem State.setFaultCause_choices (b : Bool) (s : State) : (s.setFaultCause b).choices = s.choices := rfl
@[simp] theorem State.setFaultCause_time (b : Bool) (s : State) : (s.setFaultCause b).time = s.time := rfl
@[simp] theorem State.setFaultCause_sites (b : Bool) (s : State) : (s.setFaultCause b).sites = s.sites := rfl
@[simp] theorem State.setFaultCause_noticeOrder (b : Bool) (s : State) : (s.setFaultCause b).noticeOrder = s.noticeOrder := rfl
@[simp] theorem State.setFaultCause_trunks (b : Bool) (s : State) : (s.setFaultCause b).trunks = s.trunks := rfl
@[simp] theorem State.setFaultCause_zones (b : Bool) (s : State) : (s.setFaultCause b).zones = s.zones := rfl
@[simp] theorem State.setFaultCause_solver (b : Bool) (s : State) : (s.setFaultCause b).solver = s.solver := rfl
@[simp] theorem State.setFaultCause_slots (b : Bool) (s : State) : (s.setFaultCause b).slots = s.slots := rfl
@[simp] theorem State.setFaultCause_config (b : Bool) (s : State) : (s.setFaultCause b).config = s.config := rfl
@[simp] theorem State.setFaultCause_port (b : Bool) (s : State) : (s.setFaultCause b).port = s.port := rfl

/-! ### installSites -/

@[simp] theorem State.installSites_pending (g : Nat) (t : Table SiteRecord 64) (s : State) : (s.installSites g t).pending = s.pending := rfl
@[simp] theorem State.installSites_resetUnit (g : Nat) (t : Table SiteRecord 64) (s : State) : (s.installSites g t).resetUnit = s.resetUnit := rfl
@[simp] theorem State.installSites_choices (g : Nat) (t : Table SiteRecord 64) (s : State) : (s.installSites g t).choices = s.choices := rfl
@[simp] theorem State.installSites_time (g : Nat) (t : Table SiteRecord 64) (s : State) : (s.installSites g t).time = s.time := rfl
@[simp] theorem State.installSites_noticeOrder (g : Nat) (t : Table SiteRecord 64) (s : State) : (s.installSites g t).noticeOrder = s.noticeOrder := rfl
@[simp] theorem State.installSites_trunks (g : Nat) (t : Table SiteRecord 64) (s : State) : (s.installSites g t).trunks = s.trunks := rfl
@[simp] theorem State.installSites_zones (g : Nat) (t : Table SiteRecord 64) (s : State) : (s.installSites g t).zones = s.zones := rfl
@[simp] theorem State.installSites_slots (g : Nat) (t : Table SiteRecord 64) (s : State) : (s.installSites g t).slots = s.slots := rfl
@[simp] theorem State.installSites_config (g : Nat) (t : Table SiteRecord 64) (s : State) : (s.installSites g t).config = s.config := rfl
@[simp] theorem State.installSites_port (g : Nat) (t : Table SiteRecord 64) (s : State) : (s.installSites g t).port = s.port := rfl

/-! ### putSite -/

@[simp] theorem State.putSite_pending (i : SiteNo) (r : SiteRecord) (s : State) : (s.putSite i r).pending = s.pending := rfl
@[simp] theorem State.putSite_resetUnit (i : SiteNo) (r : SiteRecord) (s : State) : (s.putSite i r).resetUnit = s.resetUnit := rfl
@[simp] theorem State.putSite_choices (i : SiteNo) (r : SiteRecord) (s : State) : (s.putSite i r).choices = s.choices := rfl
@[simp] theorem State.putSite_time (i : SiteNo) (r : SiteRecord) (s : State) : (s.putSite i r).time = s.time := rfl
@[simp] theorem State.putSite_noticeOrder (i : SiteNo) (r : SiteRecord) (s : State) : (s.putSite i r).noticeOrder = s.noticeOrder := rfl
@[simp] theorem State.putSite_trunks (i : SiteNo) (r : SiteRecord) (s : State) : (s.putSite i r).trunks = s.trunks := rfl
@[simp] theorem State.putSite_zones (i : SiteNo) (r : SiteRecord) (s : State) : (s.putSite i r).zones = s.zones := rfl
@[simp] theorem State.putSite_slots (i : SiteNo) (r : SiteRecord) (s : State) : (s.putSite i r).slots = s.slots := rfl
@[simp] theorem State.putSite_config (i : SiteNo) (r : SiteRecord) (s : State) : (s.putSite i r).config = s.config := rfl
@[simp] theorem State.putSite_port (i : SiteNo) (r : SiteRecord) (s : State) : (s.putSite i r).port = s.port := rfl

/-! ### mapSites -/

@[simp] theorem State.mapSites_pending (f : SiteNo → SiteRecord → SiteRecord) (s : State) : (s.mapSites f).pending = s.pending := rfl
@[simp] theorem State.mapSites_resetUnit (f : SiteNo → SiteRecord → SiteRecord) (s : State) : (s.mapSites f).resetUnit = s.resetUnit := rfl
@[simp] theorem State.mapSites_choices (f : SiteNo → SiteRecord → SiteRecord) (s : State) : (s.mapSites f).choices = s.choices := rfl
@[simp] theorem State.mapSites_time (f : SiteNo → SiteRecord → SiteRecord) (s : State) : (s.mapSites f).time = s.time := rfl
@[simp] theorem State.mapSites_noticeOrder (f : SiteNo → SiteRecord → SiteRecord) (s : State) : (s.mapSites f).noticeOrder = s.noticeOrder := rfl
@[simp] theorem State.mapSites_trunks (f : SiteNo → SiteRecord → SiteRecord) (s : State) : (s.mapSites f).trunks = s.trunks := rfl
@[simp] theorem State.mapSites_zones (f : SiteNo → SiteRecord → SiteRecord) (s : State) : (s.mapSites f).zones = s.zones := rfl
@[simp] theorem State.mapSites_slots (f : SiteNo → SiteRecord → SiteRecord) (s : State) : (s.mapSites f).slots = s.slots := rfl
@[simp] theorem State.mapSites_config (f : SiteNo → SiteRecord → SiteRecord) (s : State) : (s.mapSites f).config = s.config := rfl
@[simp] theorem State.mapSites_port (f : SiteNo → SiteRecord → SiteRecord) (s : State) : (s.mapSites f).port = s.port := rfl

/-! ### setNoticeOrder -/

@[simp] theorem State.setNoticeOrder_pending (l : List SiteNo) (s : State) : (s.setNoticeOrder l).pending = s.pending := rfl
@[simp] theorem State.setNoticeOrder_resetUnit (l : List SiteNo) (s : State) : (s.setNoticeOrder l).resetUnit = s.resetUnit := rfl
@[simp] theorem State.setNoticeOrder_choices (l : List SiteNo) (s : State) : (s.setNoticeOrder l).choices = s.choices := rfl
@[simp] theorem State.setNoticeOrder_time (l : List SiteNo) (s : State) : (s.setNoticeOrder l).time = s.time := rfl
@[simp] theorem State.setNoticeOrder_sites (l : List SiteNo) (s : State) : (s.setNoticeOrder l).sites = s.sites := rfl
@[simp] theorem State.setNoticeOrder_trunks (l : List SiteNo) (s : State) : (s.setNoticeOrder l).trunks = s.trunks := rfl
@[simp] theorem State.setNoticeOrder_zones (l : List SiteNo) (s : State) : (s.setNoticeOrder l).zones = s.zones := rfl
@[simp] theorem State.setNoticeOrder_solver (l : List SiteNo) (s : State) : (s.setNoticeOrder l).solver = s.solver := rfl
@[simp] theorem State.setNoticeOrder_slots (l : List SiteNo) (s : State) : (s.setNoticeOrder l).slots = s.slots := rfl
@[simp] theorem State.setNoticeOrder_config (l : List SiteNo) (s : State) : (s.setNoticeOrder l).config = s.config := rfl
@[simp] theorem State.setNoticeOrder_port (l : List SiteNo) (s : State) : (s.setNoticeOrder l).port = s.port := rfl

/-! ### putTrunk -/

@[simp] theorem State.putTrunk_pending (t : TrunkNo) (tr : Trunk) (s : State) : (s.putTrunk t tr).pending = s.pending := rfl
@[simp] theorem State.putTrunk_resetUnit (t : TrunkNo) (tr : Trunk) (s : State) : (s.putTrunk t tr).resetUnit = s.resetUnit := rfl
@[simp] theorem State.putTrunk_choices (t : TrunkNo) (tr : Trunk) (s : State) : (s.putTrunk t tr).choices = s.choices := rfl
@[simp] theorem State.putTrunk_time (t : TrunkNo) (tr : Trunk) (s : State) : (s.putTrunk t tr).time = s.time := rfl
@[simp] theorem State.putTrunk_sites (t : TrunkNo) (tr : Trunk) (s : State) : (s.putTrunk t tr).sites = s.sites := rfl
@[simp] theorem State.putTrunk_noticeOrder (t : TrunkNo) (tr : Trunk) (s : State) : (s.putTrunk t tr).noticeOrder = s.noticeOrder := rfl
@[simp] theorem State.putTrunk_zones (t : TrunkNo) (tr : Trunk) (s : State) : (s.putTrunk t tr).zones = s.zones := rfl
@[simp] theorem State.putTrunk_solver (t : TrunkNo) (tr : Trunk) (s : State) : (s.putTrunk t tr).solver = s.solver := rfl
@[simp] theorem State.putTrunk_slots (t : TrunkNo) (tr : Trunk) (s : State) : (s.putTrunk t tr).slots = s.slots := rfl
@[simp] theorem State.putTrunk_attention (t : TrunkNo) (tr : Trunk) (s : State) : (s.putTrunk t tr).attention = s.attention := rfl
@[simp] theorem State.putTrunk_config (t : TrunkNo) (tr : Trunk) (s : State) : (s.putTrunk t tr).config = s.config := rfl
@[simp] theorem State.putTrunk_port (t : TrunkNo) (tr : Trunk) (s : State) : (s.putTrunk t tr).port = s.port := rfl

/-! ### installSlots -/

@[simp] theorem State.installSlots_pending (t : Table (Option Batch) 8) (s : State) : (s.installSlots t).pending = s.pending := rfl
@[simp] theorem State.installSlots_resetUnit (t : Table (Option Batch) 8) (s : State) : (s.installSlots t).resetUnit = s.resetUnit := rfl
@[simp] theorem State.installSlots_choices (t : Table (Option Batch) 8) (s : State) : (s.installSlots t).choices = s.choices := rfl
@[simp] theorem State.installSlots_time (t : Table (Option Batch) 8) (s : State) : (s.installSlots t).time = s.time := rfl
@[simp] theorem State.installSlots_sites (t : Table (Option Batch) 8) (s : State) : (s.installSlots t).sites = s.sites := rfl
@[simp] theorem State.installSlots_noticeOrder (t : Table (Option Batch) 8) (s : State) : (s.installSlots t).noticeOrder = s.noticeOrder := rfl
@[simp] theorem State.installSlots_trunks (t : Table (Option Batch) 8) (s : State) : (s.installSlots t).trunks = s.trunks := rfl
@[simp] theorem State.installSlots_zones (t : Table (Option Batch) 8) (s : State) : (s.installSlots t).zones = s.zones := rfl
@[simp] theorem State.installSlots_solver (t : Table (Option Batch) 8) (s : State) : (s.installSlots t).solver = s.solver := rfl
@[simp] theorem State.installSlots_config (t : Table (Option Batch) 8) (s : State) : (s.installSlots t).config = s.config := rfl
@[simp] theorem State.installSlots_port (t : Table (Option Batch) 8) (s : State) : (s.installSlots t).port = s.port := rfl

/-! ### putSlot -/

@[simp] theorem State.putSlot_pending (i : SlotNo) (b : Option Batch) (s : State) : (s.putSlot i b).pending = s.pending := rfl
@[simp] theorem State.putSlot_resetUnit (i : SlotNo) (b : Option Batch) (s : State) : (s.putSlot i b).resetUnit = s.resetUnit := rfl
@[simp] theorem State.putSlot_choices (i : SlotNo) (b : Option Batch) (s : State) : (s.putSlot i b).choices = s.choices := rfl
@[simp] theorem State.putSlot_time (i : SlotNo) (b : Option Batch) (s : State) : (s.putSlot i b).time = s.time := rfl
@[simp] theorem State.putSlot_sites (i : SlotNo) (b : Option Batch) (s : State) : (s.putSlot i b).sites = s.sites := rfl
@[simp] theorem State.putSlot_noticeOrder (i : SlotNo) (b : Option Batch) (s : State) : (s.putSlot i b).noticeOrder = s.noticeOrder := rfl
@[simp] theorem State.putSlot_trunks (i : SlotNo) (b : Option Batch) (s : State) : (s.putSlot i b).trunks = s.trunks := rfl
@[simp] theorem State.putSlot_zones (i : SlotNo) (b : Option Batch) (s : State) : (s.putSlot i b).zones = s.zones := rfl
@[simp] theorem State.putSlot_solver (i : SlotNo) (b : Option Batch) (s : State) : (s.putSlot i b).solver = s.solver := rfl
@[simp] theorem State.putSlot_config (i : SlotNo) (b : Option Batch) (s : State) : (s.putSlot i b).config = s.config := rfl
@[simp] theorem State.putSlot_port (i : SlotNo) (b : Option Batch) (s : State) : (s.putSlot i b).port = s.port := rfl

/-! ### queueFrames -/

@[simp] theorem State.queueFrames_pending (i : SlotNo) (l : List HoldList) (s : State) : (s.queueFrames i l).pending = s.pending := rfl
@[simp] theorem State.queueFrames_resetUnit (i : SlotNo) (l : List HoldList) (s : State) : (s.queueFrames i l).resetUnit = s.resetUnit := rfl
@[simp] theorem State.queueFrames_choices (i : SlotNo) (l : List HoldList) (s : State) : (s.queueFrames i l).choices = s.choices := rfl
@[simp] theorem State.queueFrames_time (i : SlotNo) (l : List HoldList) (s : State) : (s.queueFrames i l).time = s.time := rfl
@[simp] theorem State.queueFrames_sites (i : SlotNo) (l : List HoldList) (s : State) : (s.queueFrames i l).sites = s.sites := rfl
@[simp] theorem State.queueFrames_noticeOrder (i : SlotNo) (l : List HoldList) (s : State) : (s.queueFrames i l).noticeOrder = s.noticeOrder := rfl
@[simp] theorem State.queueFrames_zones (i : SlotNo) (l : List HoldList) (s : State) : (s.queueFrames i l).zones = s.zones := rfl
@[simp] theorem State.queueFrames_solver (i : SlotNo) (l : List HoldList) (s : State) : (s.queueFrames i l).solver = s.solver := rfl
@[simp] theorem State.queueFrames_slots (i : SlotNo) (l : List HoldList) (s : State) : (s.queueFrames i l).slots = s.slots := rfl
@[simp] theorem State.queueFrames_attention (i : SlotNo) (l : List HoldList) (s : State) : (s.queueFrames i l).attention = s.attention := rfl
@[simp] theorem State.queueFrames_config (i : SlotNo) (l : List HoldList) (s : State) : (s.queueFrames i l).config = s.config := rfl
@[simp] theorem State.queueFrames_port (i : SlotNo) (l : List HoldList) (s : State) : (s.queueFrames i l).port = s.port := rfl

/-! ### retireTest -/

@[simp] theorem State.retireTest_pending (s : State) : s.retireTest.pending = s.pending := rfl
@[simp] theorem State.retireTest_resetUnit (s : State) : s.retireTest.resetUnit = s.resetUnit := rfl
@[simp] theorem State.retireTest_choices (s : State) : s.retireTest.choices = s.choices := rfl
@[simp] theorem State.retireTest_time (s : State) : s.retireTest.time = s.time := rfl
@[simp] theorem State.retireTest_trunks (s : State) : s.retireTest.trunks = s.trunks := rfl
@[simp] theorem State.retireTest_zones (s : State) : s.retireTest.zones = s.zones := rfl
@[simp] theorem State.retireTest_slots (s : State) : s.retireTest.slots = s.slots := rfl
@[simp] theorem State.retireTest_config (s : State) : s.retireTest.config = s.config := rfl
@[simp] theorem State.retireTest_port (s : State) : s.retireTest.port = s.port := rfl

/-! ### respond -/

@[simp] theorem State.respond_pending (a : Answer) (s : State) : (s.respond a).pending = s.pending := rfl
@[simp] theorem State.respond_resetUnit (a : Answer) (s : State) : (s.respond a).resetUnit = s.resetUnit := rfl
@[simp] theorem State.respond_choices (a : Answer) (s : State) : (s.respond a).choices = s.choices := rfl
@[simp] theorem State.respond_time (a : Answer) (s : State) : (s.respond a).time = s.time := rfl
@[simp] theorem State.respond_sites (a : Answer) (s : State) : (s.respond a).sites = s.sites := rfl
@[simp] theorem State.respond_noticeOrder (a : Answer) (s : State) : (s.respond a).noticeOrder = s.noticeOrder := rfl
@[simp] theorem State.respond_trunks (a : Answer) (s : State) : (s.respond a).trunks = s.trunks := rfl
@[simp] theorem State.respond_zones (a : Answer) (s : State) : (s.respond a).zones = s.zones := rfl
@[simp] theorem State.respond_solver (a : Answer) (s : State) : (s.respond a).solver = s.solver := rfl
@[simp] theorem State.respond_slots (a : Answer) (s : State) : (s.respond a).slots = s.slots := rfl
@[simp] theorem State.respond_attention (a : Answer) (s : State) : (s.respond a).attention = s.attention := rfl
@[simp] theorem State.respond_config (a : Answer) (s : State) : (s.respond a).config = s.config := rfl

/-! ### setParams -/

@[simp] theorem State.setParams_pending (p : Params) (s : State) : (s.setParams p).pending = s.pending := rfl
@[simp] theorem State.setParams_resetUnit (p : Params) (s : State) : (s.setParams p).resetUnit = s.resetUnit := rfl
@[simp] theorem State.setParams_choices (p : Params) (s : State) : (s.setParams p).choices = s.choices := rfl
@[simp] theorem State.setParams_time (p : Params) (s : State) : (s.setParams p).time = s.time := rfl
@[simp] theorem State.setParams_sites (p : Params) (s : State) : (s.setParams p).sites = s.sites := rfl
@[simp] theorem State.setParams_noticeOrder (p : Params) (s : State) : (s.setParams p).noticeOrder = s.noticeOrder := rfl
@[simp] theorem State.setParams_trunks (p : Params) (s : State) : (s.setParams p).trunks = s.trunks := rfl
@[simp] theorem State.setParams_zones (p : Params) (s : State) : (s.setParams p).zones = s.zones := rfl
@[simp] theorem State.setParams_solver (p : Params) (s : State) : (s.setParams p).solver = s.solver := rfl
@[simp] theorem State.setParams_slots (p : Params) (s : State) : (s.setParams p).slots = s.slots := rfl
@[simp] theorem State.setParams_attention (p : Params) (s : State) : (s.setParams p).attention = s.attention := rfl
@[simp] theorem State.setParams_port (p : Params) (s : State) : (s.setParams p).port = s.port := rfl

/-! ### setCalPin -/

@[simp] theorem State.setCalPin_pending (b : Bool) (s : State) : (s.setCalPin b).pending = s.pending := rfl
@[simp] theorem State.setCalPin_resetUnit (b : Bool) (s : State) : (s.setCalPin b).resetUnit = s.resetUnit := rfl
@[simp] theorem State.setCalPin_choices (b : Bool) (s : State) : (s.setCalPin b).choices = s.choices := rfl
@[simp] theorem State.setCalPin_sites (b : Bool) (s : State) : (s.setCalPin b).sites = s.sites := rfl
@[simp] theorem State.setCalPin_noticeOrder (b : Bool) (s : State) : (s.setCalPin b).noticeOrder = s.noticeOrder := rfl
@[simp] theorem State.setCalPin_trunks (b : Bool) (s : State) : (s.setCalPin b).trunks = s.trunks := rfl
@[simp] theorem State.setCalPin_zones (b : Bool) (s : State) : (s.setCalPin b).zones = s.zones := rfl
@[simp] theorem State.setCalPin_solver (b : Bool) (s : State) : (s.setCalPin b).solver = s.solver := rfl
@[simp] theorem State.setCalPin_slots (b : Bool) (s : State) : (s.setCalPin b).slots = s.slots := rfl
@[simp] theorem State.setCalPin_attention (b : Bool) (s : State) : (s.setCalPin b).attention = s.attention := rfl
@[simp] theorem State.setCalPin_config (b : Bool) (s : State) : (s.setCalPin b).config = s.config := rfl
@[simp] theorem State.setCalPin_port (b : Bool) (s : State) : (s.setCalPin b).port = s.port := rfl

/-! ### voidProbes -/

@[simp] theorem State.voidProbes_pending (s : State) : s.voidProbes.pending = s.pending := rfl
@[simp] theorem State.voidProbes_resetUnit (s : State) : s.voidProbes.resetUnit = s.resetUnit := rfl
@[simp] theorem State.voidProbes_choices (s : State) : s.voidProbes.choices = s.choices := rfl
@[simp] theorem State.voidProbes_time (s : State) : s.voidProbes.time = s.time := rfl
@[simp] theorem State.voidProbes_sites (s : State) : s.voidProbes.sites = s.sites := rfl
@[simp] theorem State.voidProbes_noticeOrder (s : State) : s.voidProbes.noticeOrder = s.noticeOrder := rfl
@[simp] theorem State.voidProbes_zones (s : State) : s.voidProbes.zones = s.zones := rfl
@[simp] theorem State.voidProbes_solver (s : State) : s.voidProbes.solver = s.solver := rfl
@[simp] theorem State.voidProbes_slots (s : State) : s.voidProbes.slots = s.slots := rfl
@[simp] theorem State.voidProbes_attention (s : State) : s.voidProbes.attention = s.attention := rfl
@[simp] theorem State.voidProbes_config (s : State) : s.voidProbes.config = s.config := rfl
@[simp] theorem State.voidProbes_port (s : State) : s.voidProbes.port = s.port := rfl

/-! ### publish -/

@[simp] theorem State.publish_pending (n : Snapshot) (s : State) : (s.publish n).pending = s.pending := rfl
@[simp] theorem State.publish_resetUnit (n : Snapshot) (s : State) : (s.publish n).resetUnit = s.resetUnit := rfl
@[simp] theorem State.publish_choices (n : Snapshot) (s : State) : (s.publish n).choices = s.choices := rfl
@[simp] theorem State.publish_time (n : Snapshot) (s : State) : (s.publish n).time = s.time := rfl
@[simp] theorem State.publish_sites (n : Snapshot) (s : State) : (s.publish n).sites = s.sites := rfl
@[simp] theorem State.publish_noticeOrder (n : Snapshot) (s : State) : (s.publish n).noticeOrder = s.noticeOrder := rfl
@[simp] theorem State.publish_trunks (n : Snapshot) (s : State) : (s.publish n).trunks = s.trunks := rfl
@[simp] theorem State.publish_zones (n : Snapshot) (s : State) : (s.publish n).zones = s.zones := rfl
@[simp] theorem State.publish_slots (n : Snapshot) (s : State) : (s.publish n).slots = s.slots := rfl
@[simp] theorem State.publish_config (n : Snapshot) (s : State) : (s.publish n).config = s.config := rfl
@[simp] theorem State.publish_port (n : Snapshot) (s : State) : (s.publish n).port = s.port := rfl
@[simp] theorem State.publish_stale (n : Snapshot) (s : State) : (s.publish n).solver.stale = s.solver.stale := rfl
@[simp] theorem State.publish_running (n : Snapshot) (s : State) : (s.publish n).solver.running = none := rfl
@[simp] theorem State.publish_latest (n : Snapshot) (s : State) :
    (s.publish n).solver.latest = some ((n.plan (nextEpoch s.solver.epoch)).excludeVacant s.sites) := rfl

/-- All that the publication does to the disposition of a site (R36, R130). -/
theorem Plan.excludeVacant_sites (t : Table SiteRecord 64) (p : Plan) (i : SiteNo) :
    (p.excludeVacant t).sites.get i =
      match p.sites.get i with
      | .excluded r => .excluded r
      | .launch q => if (t.get i).state = .vacant then .excluded .vacant else .launch q
      | .muted q => if (t.get i).state = .vacant then .excluded .vacant else .muted q := by
  simp only [Plan.excludeVacant, Table.get_mapIdx]
  cases p.sites.get i <;> rfl
@[simp] theorem Plan.excludeVacant_epoch (t : Table SiteRecord 64) (p : Plan) : (p.excludeVacant t).epoch = p.epoch := rfl
@[simp] theorem Plan.excludeVacant_provisional (t : Table SiteRecord 64) (p : Plan) :
    (p.excludeVacant t).provisional = p.provisional := rfl
@[simp] theorem Plan.excludeVacant_horizon (t : Table SiteRecord 64) (p : Plan) :
    (p.excludeVacant t).horizon = p.horizon := rfl
@[simp] theorem Plan.excludeVacant_grans (t : Table SiteRecord 64) (p : Plan) : (p.excludeVacant t).grans = p.grans := rfl
@[simp] theorem Plan.excludeVacant_zones (t : Table SiteRecord 64) (p : Plan) : (p.excludeVacant t).zones = p.zones := rfl

/-! ### startSolve -/

@[simp] theorem State.startSolve_pending (s : State) : s.startSolve.pending = s.pending := rfl
@[simp] theorem State.startSolve_resetUnit (s : State) : s.startSolve.resetUnit = s.resetUnit := rfl
@[simp] theorem State.startSolve_choices (s : State) : s.startSolve.choices = s.choices := rfl
@[simp] theorem State.startSolve_time (s : State) : s.startSolve.time = s.time := rfl
@[simp] theorem State.startSolve_sites (s : State) : s.startSolve.sites = s.sites := rfl
@[simp] theorem State.startSolve_noticeOrder (s : State) : s.startSolve.noticeOrder = s.noticeOrder := rfl
@[simp] theorem State.startSolve_trunks (s : State) : s.startSolve.trunks = s.trunks := rfl
@[simp] theorem State.startSolve_zones (s : State) : s.startSolve.zones = s.zones := rfl
@[simp] theorem State.startSolve_slots (s : State) : s.startSolve.slots = s.slots := rfl
@[simp] theorem State.startSolve_attention (s : State) : s.startSolve.attention = s.attention := rfl
@[simp] theorem State.startSolve_config (s : State) : s.startSolve.config = s.config := rfl
@[simp] theorem State.startSolve_port (s : State) : s.startSolve.port = s.port := rfl
@[simp] theorem State.startSolve_stale (s : State) : s.startSolve.solver.stale = false := rfl
@[simp] theorem State.startSolve_running (s : State) :
    s.startSolve.solver.running = some { snapshot := s.snapshot, start := s.time.now } := rfl
@[simp] theorem State.startSolve_latest (s : State) : s.startSolve.solver.latest = s.solver.latest := rfl

/-! ### completeSolve -/

/-- Everything a completion can do: the publication and the retire-completion test, with the start of the next solve between
them where the flag is stale and the start is taken first (R129). -/
theorem State.completeSolve_cases (b : Bool) (n : Snapshot) (s : State) :
    (s.solver.stale && b) = true ∧ s.completeSolve b n = (s.publish n).startSolve.retireTest
      ∨ (s.solver.stale && b) = false ∧ s.completeSolve b n = (s.publish n).retireTest := by
  unfold State.completeSolve Solver.mayStart
  cases b <;> cases h : s.solver.stale <;> simp [h]
@[simp] theorem State.completeSolve_pending (b : Bool) (n : Snapshot) (s : State) : (s.completeSolve b n).pending = s.pending := by
  rcases State.completeSolve_cases b n s with ⟨_, e⟩ | ⟨_, e⟩ <;> rw [e] <;> rfl
@[simp] theorem State.completeSolve_resetUnit (b : Bool) (n : Snapshot) (s : State) : (s.completeSolve b n).resetUnit = s.resetUnit := by
  rcases State.completeSolve_cases b n s with ⟨_, e⟩ | ⟨_, e⟩ <;> rw [e] <;> rfl
@[simp] theorem State.completeSolve_choices (b : Bool) (n : Snapshot) (s : State) : (s.completeSolve b n).choices = s.choices := by
  rcases State.completeSolve_cases b n s with ⟨_, e⟩ | ⟨_, e⟩ <;> rw [e] <;> rfl
@[simp] theorem State.completeSolve_time (b : Bool) (n : Snapshot) (s : State) : (s.completeSolve b n).time = s.time := by
  rcases State.completeSolve_cases b n s with ⟨_, e⟩ | ⟨_, e⟩ <;> rw [e] <;> rfl
@[simp] theorem State.completeSolve_trunks (b : Bool) (n : Snapshot) (s : State) : (s.completeSolve b n).trunks = s.trunks := by
  rcases State.completeSolve_cases b n s with ⟨_, e⟩ | ⟨_, e⟩ <;> rw [e] <;> rfl
@[simp] theorem State.completeSolve_zones (b : Bool) (n : Snapshot) (s : State) : (s.completeSolve b n).zones = s.zones := by
  rcases State.completeSolve_cases b n s with ⟨_, e⟩ | ⟨_, e⟩ <;> rw [e] <;> rfl
@[simp] theorem State.completeSolve_slots (b : Bool) (n : Snapshot) (s : State) : (s.completeSolve b n).slots = s.slots := by
  rcases State.completeSolve_cases b n s with ⟨_, e⟩ | ⟨_, e⟩ <;> rw [e] <;> rfl
@[simp] theorem State.completeSolve_config (b : Bool) (n : Snapshot) (s : State) : (s.completeSolve b n).config = s.config := by
  rcases State.completeSolve_cases b n s with ⟨_, e⟩ | ⟨_, e⟩ <;> rw [e] <;> rfl
@[simp] theorem State.completeSolve_port (b : Bool) (n : Snapshot) (s : State) : (s.completeSolve b n).port = s.port := by
  rcases State.completeSolve_cases b n s with ⟨_, e⟩ | ⟨_, e⟩ <;> rw [e] <;> rfl
@[simp] theorem State.completeSolve_latest (b : Bool) (n : Snapshot) (s : State) :
    (s.completeSolve b n).solver.latest = some ((n.plan (nextEpoch s.solver.epoch)).excludeVacant s.sites) := by
  rcases State.completeSolve_cases b n s with ⟨_, e⟩ | ⟨_, e⟩ <;> rw [e] <;> rfl

/-! ### putZone -/

@[simp] theorem State.putZone_pending (z : ZoneNo) (b : Option ZoneBody) (s : State) : (s.putZone z b).pending = s.pending := rfl
@[simp] theorem State.putZone_resetUnit (z : ZoneNo) (b : Option ZoneBody) (s : State) : (s.putZone z b).resetUnit = s.resetUnit := rfl
@[simp] theorem State.putZone_choices (z : ZoneNo) (b : Option ZoneBody) (s : State) : (s.putZone z b).choices = s.choices := rfl
@[simp] theorem State.putZone_time (z : ZoneNo) (b : Option ZoneBody) (s : State) : (s.putZone z b).time = s.time := rfl
@[simp] theorem State.putZone_sites (z : ZoneNo) (b : Option ZoneBody) (s : State) : (s.putZone z b).sites = s.sites := rfl
@[simp] theorem State.putZone_noticeOrder (z : ZoneNo) (b : Option ZoneBody) (s : State) : (s.putZone z b).noticeOrder = s.noticeOrder := rfl
@[simp] theorem State.putZone_trunks (z : ZoneNo) (b : Option ZoneBody) (s : State) : (s.putZone z b).trunks = s.trunks := rfl
@[simp] theorem State.putZone_slots (z : ZoneNo) (b : Option ZoneBody) (s : State) : (s.putZone z b).slots = s.slots := rfl
@[simp] theorem State.putZone_attention (z : ZoneNo) (b : Option ZoneBody) (s : State) : (s.putZone z b).attention = s.attention := rfl
@[simp] theorem State.putZone_config (z : ZoneNo) (b : Option ZoneBody) (s : State) : (s.putZone z b).config = s.config := rfl
@[simp] theorem State.putZone_port (z : ZoneNo) (b : Option ZoneBody) (s : State) : (s.putZone z b).port = s.port := rfl

/-! ### removeFromZones -/

@[simp] theorem State.removeFromZones_pending (i : SiteNo) (s : State) : (s.removeFromZones i).pending = s.pending := rfl
@[simp] theorem State.removeFromZones_resetUnit (i : SiteNo) (s : State) : (s.removeFromZones i).resetUnit = s.resetUnit := rfl
@[simp] theorem State.removeFromZones_choices (i : SiteNo) (s : State) : (s.removeFromZones i).choices = s.choices := rfl
@[simp] theorem State.removeFromZones_time (i : SiteNo) (s : State) : (s.removeFromZones i).time = s.time := rfl
@[simp] theorem State.removeFromZones_sites (i : SiteNo) (s : State) : (s.removeFromZones i).sites = s.sites := rfl
@[simp] theorem State.removeFromZones_noticeOrder (i : SiteNo) (s : State) : (s.removeFromZones i).noticeOrder = s.noticeOrder := rfl
@[simp] theorem State.removeFromZones_trunks (i : SiteNo) (s : State) : (s.removeFromZones i).trunks = s.trunks := rfl
@[simp] theorem State.removeFromZones_slots (i : SiteNo) (s : State) : (s.removeFromZones i).slots = s.slots := rfl
@[simp] theorem State.removeFromZones_attention (i : SiteNo) (s : State) : (s.removeFromZones i).attention = s.attention := rfl
@[simp] theorem State.removeFromZones_config (i : SiteNo) (s : State) : (s.removeFromZones i).config = s.config := rfl
@[simp] theorem State.removeFromZones_port (i : SiteNo) (s : State) : (s.removeFromZones i).port = s.port := rfl

/-! ### enableTrunk -/

@[simp] theorem State.enableTrunk_pending (t : TrunkNo) (s : State) : (s.enableTrunk t).pending = s.pending := rfl
@[simp] theorem State.enableTrunk_resetUnit (t : TrunkNo) (s : State) : (s.enableTrunk t).resetUnit = s.resetUnit := rfl
@[simp] theorem State.enableTrunk_choices (t : TrunkNo) (s : State) : (s.enableTrunk t).choices = s.choices := rfl
@[simp] theorem State.enableTrunk_time (t : TrunkNo) (s : State) : (s.enableTrunk t).time = s.time := rfl
@[simp] theorem State.enableTrunk_sites (t : TrunkNo) (s : State) : (s.enableTrunk t).sites = s.sites := rfl
@[simp] theorem State.enableTrunk_noticeOrder (t : TrunkNo) (s : State) : (s.enableTrunk t).noticeOrder = s.noticeOrder := rfl
@[simp] theorem State.enableTrunk_zones (t : TrunkNo) (s : State) : (s.enableTrunk t).zones = s.zones := rfl
@[simp] theorem State.enableTrunk_slots (t : TrunkNo) (s : State) : (s.enableTrunk t).slots = s.slots := rfl
@[simp] theorem State.enableTrunk_attention (t : TrunkNo) (s : State) : (s.enableTrunk t).attention = s.attention := rfl
@[simp] theorem State.enableTrunk_config (t : TrunkNo) (s : State) : (s.enableTrunk t).config = s.config := rfl
@[simp] theorem State.enableTrunk_port (t : TrunkNo) (s : State) : (s.enableTrunk t).port = s.port := rfl

/-! ### storeNotice -/

@[simp] theorem State.storeNotice_pending (i : SiteNo) (n : Notice) (s : State) : (s.storeNotice i n).pending = s.pending := rfl
@[simp] theorem State.storeNotice_resetUnit (i : SiteNo) (n : Notice) (s : State) : (s.storeNotice i n).resetUnit = s.resetUnit := rfl
@[simp] theorem State.storeNotice_choices (i : SiteNo) (n : Notice) (s : State) : (s.storeNotice i n).choices = s.choices := rfl
@[simp] theorem State.storeNotice_time (i : SiteNo) (n : Notice) (s : State) : (s.storeNotice i n).time = s.time := rfl
@[simp] theorem State.storeNotice_trunks (i : SiteNo) (n : Notice) (s : State) : (s.storeNotice i n).trunks = s.trunks := rfl
@[simp] theorem State.storeNotice_zones (i : SiteNo) (n : Notice) (s : State) : (s.storeNotice i n).zones = s.zones := rfl
@[simp] theorem State.storeNotice_slots (i : SiteNo) (n : Notice) (s : State) : (s.storeNotice i n).slots = s.slots := rfl
@[simp] theorem State.storeNotice_config (i : SiteNo) (n : Notice) (s : State) : (s.storeNotice i n).config = s.config := rfl
@[simp] theorem State.storeNotice_port (i : SiteNo) (n : Notice) (s : State) : (s.storeNotice i n).port = s.port := rfl

/-! ### finish -/

@[simp] theorem State.finish_pending (i : SlotNo) (b : Batch) (x : Dispatched) (s : State) : (s.finish i b x).pending = s.pending := rfl
@[simp] theorem State.finish_resetUnit (i : SlotNo) (b : Batch) (x : Dispatched) (s : State) : (s.finish i b x).resetUnit = s.resetUnit := rfl
@[simp] theorem State.finish_choices (i : SlotNo) (b : Batch) (x : Dispatched) (s : State) : (s.finish i b x).choices = s.choices := rfl
@[simp] theorem State.finish_time (i : SlotNo) (b : Batch) (x : Dispatched) (s : State) : (s.finish i b x).time = s.time := rfl
@[simp] theorem State.finish_trunks (i : SlotNo) (b : Batch) (x : Dispatched) (s : State) : (s.finish i b x).trunks = s.trunks := rfl
@[simp] theorem State.finish_zones (i : SlotNo) (b : Batch) (x : Dispatched) (s : State) : (s.finish i b x).zones = s.zones := rfl
@[simp] theorem State.finish_config (i : SlotNo) (b : Batch) (x : Dispatched) (s : State) : (s.finish i b x).config = s.config := rfl
@[simp] theorem State.finish_port (i : SlotNo) (b : Batch) (x : Dispatched) (s : State) : (s.finish i b x).port = s.port := rfl

/-! ### clearBlocks -/

@[simp] theorem State.clearBlocks_pending (s : State) : s.clearBlocks.pending = s.pending := rfl
@[simp] theorem State.clearBlocks_resetUnit (s : State) : s.clearBlocks.resetUnit = s.resetUnit := rfl
@[simp] theorem State.clearBlocks_choices (s : State) : s.clearBlocks.choices = s.choices := rfl
@[simp] theorem State.clearBlocks_port (s : State) : s.clearBlocks.port = s.port := rfl

/-! ### clearAll -/

@[simp] theorem State.clearAll_pending (s : State) : s.clearAll.pending = s.pending := rfl
@[simp] theorem State.clearAll_resetUnit (s : State) : s.clearAll.resetUnit = s.resetUnit := rfl
@[simp] theorem State.clearAll_choices (s : State) : s.clearAll.choices = s.choices := rfl

/-! ### clearStores -/

@[simp] theorem State.clearStores_pending (s : State) : s.clearStores.pending = s.pending := rfl
@[simp] theorem State.clearStores_resetUnit (s : State) : s.clearStores.resetUnit = s.resetUnit := rfl
@[simp] theorem State.clearStores_choices (s : State) : s.clearStores.choices = s.choices := rfl
@[simp] theorem State.clearStores_time (s : State) : s.clearStores.time = s.time := rfl
@[simp] theorem State.clearStores_trunks (s : State) : s.clearStores.trunks = s.trunks := rfl
@[simp] theorem State.clearStores_attention (s : State) : s.clearStores.attention = s.attention := rfl
@[simp] theorem State.clearStores_config (s : State) : s.clearStores.config = s.config := rfl
@[simp] theorem State.clearStores_port (s : State) : s.clearStores.port = s.port := rfl

/-! ### timeoutResult -/

@[simp] theorem State.timeoutResult_pending (i : SiteNo) (s : State) : (s.timeoutResult i).pending = s.pending := rfl
@[simp] theorem State.timeoutResult_resetUnit (i : SiteNo) (s : State) : (s.timeoutResult i).resetUnit = s.resetUnit := rfl
@[simp] theorem State.timeoutResult_choices (i : SiteNo) (s : State) : (s.timeoutResult i).choices = s.choices := rfl
@[simp] theorem State.timeoutResult_time (i : SiteNo) (s : State) : (s.timeoutResult i).time = s.time := rfl
@[simp] theorem State.timeoutResult_noticeOrder (i : SiteNo) (s : State) : (s.timeoutResult i).noticeOrder = s.noticeOrder := rfl
@[simp] theorem State.timeoutResult_trunks (i : SiteNo) (s : State) : (s.timeoutResult i).trunks = s.trunks := rfl
@[simp] theorem State.timeoutResult_zones (i : SiteNo) (s : State) : (s.timeoutResult i).zones = s.zones := rfl
@[simp] theorem State.timeoutResult_slots (i : SiteNo) (s : State) : (s.timeoutResult i).slots = s.slots := rfl
@[simp] theorem State.timeoutResult_config (i : SiteNo) (s : State) : (s.timeoutResult i).config = s.config := rfl
@[simp] theorem State.timeoutResult_port (i : SiteNo) (s : State) : (s.timeoutResult i).port = s.port := rfl

/-! ### endMeasurement -/

@[simp] theorem State.endMeasurement_pending (m : Measurement) (o : CalOutcome) (c : Option Nat) (s : State) : (s.endMeasurement m o c).pending = s.pending := rfl
@[simp] theorem State.endMeasurement_resetUnit (m : Measurement) (o : CalOutcome) (c : Option Nat) (s : State) : (s.endMeasurement m o c).resetUnit = s.resetUnit := rfl
@[simp] theorem State.endMeasurement_choices (m : Measurement) (o : CalOutcome) (c : Option Nat) (s : State) : (s.endMeasurement m o c).choices = s.choices := rfl
@[simp] theorem State.endMeasurement_sites (m : Measurement) (o : CalOutcome) (c : Option Nat) (s : State) : (s.endMeasurement m o c).sites = s.sites := rfl
@[simp] theorem State.endMeasurement_noticeOrder (m : Measurement) (o : CalOutcome) (c : Option Nat) (s : State) : (s.endMeasurement m o c).noticeOrder = s.noticeOrder := rfl
@[simp] theorem State.endMeasurement_trunks (m : Measurement) (o : CalOutcome) (c : Option Nat) (s : State) : (s.endMeasurement m o c).trunks = s.trunks := rfl
@[simp] theorem State.endMeasurement_zones (m : Measurement) (o : CalOutcome) (c : Option Nat) (s : State) : (s.endMeasurement m o c).zones = s.zones := rfl
@[simp] theorem State.endMeasurement_slots (m : Measurement) (o : CalOutcome) (c : Option Nat) (s : State) : (s.endMeasurement m o c).slots = s.slots := rfl
@[simp] theorem State.endMeasurement_config (m : Measurement) (o : CalOutcome) (c : Option Nat) (s : State) : (s.endMeasurement m o c).config = s.config := rfl
@[simp] theorem State.endMeasurement_port (m : Measurement) (o : CalOutcome) (c : Option Nat) (s : State) : (s.endMeasurement m o c).port = s.port := rfl

/-! ### acceptMeasurement -/

@[simp] theorem State.acceptMeasurement_pending (m : Measurement) (c : Nat) (s : State) : (s.acceptMeasurement m c).pending = s.pending := rfl
@[simp] theorem State.acceptMeasurement_resetUnit (m : Measurement) (c : Nat) (s : State) : (s.acceptMeasurement m c).resetUnit = s.resetUnit := rfl
@[simp] theorem State.acceptMeasurement_choices (m : Measurement) (c : Nat) (s : State) : (s.acceptMeasurement m c).choices = s.choices := rfl
@[simp] theorem State.acceptMeasurement_sites (m : Measurement) (c : Nat) (s : State) : (s.acceptMeasurement m c).sites = s.sites := rfl
@[simp] theorem State.acceptMeasurement_noticeOrder (m : Measurement) (c : Nat) (s : State) : (s.acceptMeasurement m c).noticeOrder = s.noticeOrder := rfl
@[simp] theorem State.acceptMeasurement_zones (m : Measurement) (c : Nat) (s : State) : (s.acceptMeasurement m c).zones = s.zones := rfl
@[simp] theorem State.acceptMeasurement_slots (m : Measurement) (c : Nat) (s : State) : (s.acceptMeasurement m c).slots = s.slots := rfl
@[simp] theorem State.acceptMeasurement_config (m : Measurement) (c : Nat) (s : State) : (s.acceptMeasurement m c).config = s.config := rfl
@[simp] theorem State.acceptMeasurement_port (m : Measurement) (c : Nat) (s : State) : (s.acceptMeasurement m c).port = s.port := rfl

/-! ### The updated fields -/

@[simp] theorem State.markStale_stale (s : State) : s.markStale.solver.stale = true := rfl
@[simp] theorem State.markStale_running (s : State) : s.markStale.solver.running = s.solver.running := rfl
@[simp] theorem State.markStale_latest (s : State) : s.markStale.solver.latest = s.solver.latest := rfl
@[simp] theorem State.markStaleIf_stale (b : Bool) (s : State) :
    (s.markStaleIf b).solver.stale = (s.solver.stale || b) := rfl
@[simp] theorem State.markStaleIf_running (b : Bool) (s : State) : (s.markStaleIf b).solver.running = s.solver.running := rfl
@[simp] theorem State.markStaleIf_latest (b : Bool) (s : State) : (s.markStaleIf b).solver.latest = s.solver.latest := rfl

@[simp] theorem State.installSites_sites (g : Nat) (t : Table SiteRecord 64) (s : State) :
    (s.installSites g t).sites = t := rfl
@[simp] theorem State.installSites_stale (g : Nat) (t : Table SiteRecord 64) (s : State) :
    (s.installSites g t).solver.stale = (s.solver.stale || sitesChangePlan g s.config.growth s.sites t) := rfl
@[simp] theorem State.installSites_running (g : Nat) (t : Table SiteRecord 64) (s : State) :
    (s.installSites g t).solver.running = s.solver.running := rfl
@[simp] theorem State.installSites_latest (g : Nat) (t : Table SiteRecord 64) (s : State) :
    (s.installSites g t).solver.latest = s.solver.latest := rfl
theorem State.installSites_attention (g : Nat) (t : Table SiteRecord 64) (s : State) :
    (s.installSites g t).attention =
      { s.attention with
        present :=
          { s.attention.present with
            suspect := t.any SiteRecord.isSuspect, holdover := t.any SiteRecord.isHoldover, drift := t.any SiteRecord.drift } } :=
  rfl

@[simp] theorem State.putSite_sites (i : SiteNo) (r : SiteRecord) (s : State) : (s.putSite i r).sites = s.sites.set i r := rfl
@[simp] theorem State.putSite_running (i : SiteNo) (r : SiteRecord) (s : State) :
    (s.putSite i r).solver.running = s.solver.running := rfl
@[simp] theorem State.putSite_latest (i : SiteNo) (r : SiteRecord) (s : State) :
    (s.putSite i r).solver.latest = s.solver.latest := rfl
@[simp] theorem State.mapSites_sites (f : SiteNo → SiteRecord → SiteRecord) (s : State) :
    (s.mapSites f).sites = s.sites.mapIdx f := rfl
@[simp] theorem State.mapSites_running (f : SiteNo → SiteRecord → SiteRecord) (s : State) :
    (s.mapSites f).solver.running = s.solver.running := rfl
@[simp] theorem State.mapSites_latest (f : SiteNo → SiteRecord → SiteRecord) (s : State) :
    (s.mapSites f).solver.latest = s.solver.latest := rfl

@[simp] theorem State.setNoticeOrder_noticeOrder (l : List SiteNo) (s : State) : (s.setNoticeOrder l).noticeOrder = l := rfl
theorem State.setNoticeOrder_attention (l : List SiteNo) (s : State) :
    (s.setNoticeOrder l).attention =
      { s.attention with present := { s.attention.present with notice := !l.isEmpty } } := rfl

@[simp] theorem State.putTrunk_trunks (t : TrunkNo) (tr : Trunk) (s : State) : (s.putTrunk t tr).trunks = s.trunks.set t tr := rfl
@[simp] theorem State.installSlots_slots (t : Table (Option Batch) 8) (s : State) : (s.installSlots t).slots = t := rfl
theorem State.installSlots_attention (t : Table (Option Batch) 8) (s : State) :
    (s.installSlots t).attention =
      { s.attention with present := { s.attention.present with report := t.any isDone } } := rfl
@[simp] theorem State.putSlot_slots (i : SlotNo) (b : Option Batch) (s : State) : (s.putSlot i b).slots = s.slots.set i b := rfl

theorem State.respond_port (a : Answer) (s : State) :
    (s.respond a).port =
      { s.port with response := some a, frameOpen := false, rdy := false, selRise := some s.time.now } := rfl
@[simp] theorem State.setParams_config (p : Params) (s : State) : (s.setParams p).config = p := rfl

@[simp] theorem State.retireTest_sites (s : State) :
    s.retireTest.sites = s.sites.mapIdx fun i r => if s.passesRetireTest i then SiteRecord.vacant else r := rfl
@[simp] theorem State.retireTest_noticeOrder (s : State) :
    s.retireTest.noticeOrder = s.noticeOrder.filter fun i => !s.passesRetireTest i := rfl
@[simp] theorem State.retireTest_running (s : State) : s.retireTest.solver.running = s.solver.running := rfl
@[simp] theorem State.retireTest_latest (s : State) : s.retireTest.solver.latest = s.solver.latest := rfl

@[simp] theorem State.putZone_zones (z : ZoneNo) (b : Option ZoneBody) (s : State) :
    (s.putZone z b).zones = s.zones.set z { body := b, revision := (s.zones.get z).revision + 1 } := rfl
@[simp] theorem State.putZone_stale (z : ZoneNo) (b : Option ZoneBody) (s : State) : (s.putZone z b).solver.stale = true := rfl
@[simp] theorem State.removeFromZones_zones (i : SiteNo) (s : State) :
    (s.removeFromZones i).zones = s.zones.mapIdx fun _ z => z.withoutSite i := rfl
@[simp] theorem State.removeFromZones_stale (i : SiteNo) (s : State) :
    (s.removeFromZones i).solver.stale = (s.solver.stale || s.zones.any (ZoneRecord.holdsSite i)) := rfl
@[simp] theorem State.storeNotice_sites (i : SiteNo) (n : Notice) (s : State) :
    (s.storeNotice i n).sites =
      s.sites.set i (SiteRecord.noticeEffect n.kind { s.sites.get i with notice := some n }) := rfl
@[simp] theorem State.storeNotice_noticeOrder (i : SiteNo) (n : Notice) (s : State) :
    (s.storeNotice i n).noticeOrder = s.noticeOrder ++ [i] := rfl

end Sys2Proof.Machine
end

