-- ==== Sys2Proof/Laws/Frames.lean ====
section
/-! SUPPORT. Which blocks the shared operations may change, and how such statements combine. -/

namespace Sys2Proof.Machine

/-! ### Combining -/

theorem onlyChanges_refl (l : List Part) (s : State) : onlyChanges l s s := ⟨rfl, fun p _ => by cases p <;> rfl⟩

theorem onlyChanges_mono {l m : List Part} {s t : State} (h : onlyChanges l s t) (hs : l ⊆ m) : onlyChanges m s t :=
  ⟨h.1, fun p hp => h.2 p fun q => hp (hs q)⟩

theorem Part.same_trans {s t u : State} {p : Part} (h : p.same s t) (k : p.same t u) : p.same s u := by
  cases p <;> exact Eq.trans k h

theorem onlyChanges_trans {l : List Part} {s t u : State} (h : onlyChanges l s t) (k : onlyChanges l t u) :
    onlyChanges l s u :=
  ⟨k.1.trans h.1, fun p hp => Part.same_trans (h.2 p hp) (k.2 p hp)⟩

/-- A fold of updates that each change only some blocks changes only these. -/
theorem onlyChanges_foldl {α : Type} {l : List Part} (f : State → α → State) (h : ∀ s a, onlyChanges l s (f s a))
    (as : List α) (s : State) : onlyChanges l s (as.foldl f s) := by
  induction as generalizing s with
  | nil => exact onlyChanges_refl l s
  | cons a as ih => exact onlyChanges_trans (h s a) (ih (f s a))

/-- What a block outside the list holds is unchanged, by name. -/
theorem onlyChanges_intro {l : List Part} {s t : State} (hp : t.pending = s.pending)
    (h : ∀ p : Part, (!(decide (p ∈ l))) = true → p.same s t) : onlyChanges l s t :=
  ⟨hp, fun p hn => h p (by simpa using hn)⟩

/-! ### The operations -/

theorem State.putSite_onlyChanges (i : SiteNo) (r : SiteRecord) (s : State) :
    onlyChanges [.sites, .solver, .attention] s (s.putSite i r) := by
  refine onlyChanges_intro rfl fun p h => ?_
  cases p <;> first | rfl | exact absurd h (by decide)

theorem State.mapSites_onlyChanges (f : SiteNo → SiteRecord → SiteRecord) (s : State) :
    onlyChanges [.sites, .solver, .attention] s (s.mapSites f) := by
  refine onlyChanges_intro rfl fun p h => ?_
  cases p <;> first | rfl | exact absurd h (by decide)

theorem State.putSlot_onlyChanges (i : SlotNo) (b : Option Batch) (s : State) :
    onlyChanges [.slots, .attention] s (s.putSlot i b) := by
  refine onlyChanges_intro rfl fun p h => ?_
  cases p <;> first | rfl | exact absurd h (by decide)

theorem State.installSlots_onlyChanges (t : Table (Option Batch) 8) (s : State) :
    onlyChanges [.slots, .attention] s (s.installSlots t) := by
  refine onlyChanges_intro rfl fun p h => ?_
  cases p <;> first | rfl | exact absurd h (by decide)

theorem State.putTrunk_onlyChanges (t : TrunkNo) (tr : Trunk) (s : State) : onlyChanges [.trunks] s (s.putTrunk t tr) := by
  refine onlyChanges_intro rfl fun p h => ?_
  cases p <;> first | rfl | exact absurd h (by decide)

theorem State.queueFrames_onlyChanges (i : SlotNo) (l : List HoldList) (s : State) :
    onlyChanges [.trunks] s (s.queueFrames i l) := by
  refine onlyChanges_intro rfl fun p h => ?_
  cases p <;> first | rfl | exact absurd h (by decide)

theorem State.retireTest_onlyChanges (s : State) :
    onlyChanges [.sites, .noticeOrder, .solver, .attention] s s.retireTest := by
  refine onlyChanges_intro rfl fun p h => ?_
  cases p <;> first | rfl | exact absurd h (by decide)

theorem State.publish_onlyChanges (n : Snapshot) (s : State) : onlyChanges [.solver, .attention] s (s.publish n) := by
  refine onlyChanges_intro rfl fun p h => ?_
  cases p <;> first | rfl | exact absurd h (by decide)

theorem State.startSolve_onlyChanges (s : State) : onlyChanges [.solver] s s.startSolve := by
  refine onlyChanges_intro rfl fun p h => ?_
  cases p <;> first | rfl | exact absurd h (by decide)

theorem State.countChoice_onlyChanges (s : State) : onlyChanges [.choices] s s.countChoice := by
  refine onlyChanges_intro rfl fun p h => ?_
  cases p <;> first | rfl | exact absurd h (by decide)

theorem State.completeSolve_onlyChanges (b : Bool) (n : Snapshot) (s : State) :
    onlyChanges [.sites, .noticeOrder, .solver, .attention] s (s.completeSolve b n) := by
  have hp : onlyChanges [.sites, .noticeOrder, .solver, .attention] s (s.publish n) :=
    onlyChanges_mono (State.publish_onlyChanges n s) (by decide)
  rcases State.completeSolve_cases b n s with ⟨_, e⟩ | ⟨_, e⟩ <;> rw [e]
  · exact onlyChanges_trans hp (onlyChanges_trans (onlyChanges_mono (State.startSolve_onlyChanges _) (by decide))
      (State.retireTest_onlyChanges _))
  · exact onlyChanges_trans hp (State.retireTest_onlyChanges _)

theorem State.markStale_onlyChanges (s : State) : onlyChanges [.solver] s s.markStale := by
  refine onlyChanges_intro rfl fun p h => ?_
  cases p <;> first | rfl | exact absurd h (by decide)

theorem State.storeNotice_onlyChanges (i : SiteNo) (n : Notice) (s : State) :
    onlyChanges [.sites, .noticeOrder, .solver, .attention] s (s.storeNotice i n) := by
  refine onlyChanges_intro rfl fun p h => ?_
  cases p <;> first | rfl | exact absurd h (by decide)

theorem State.dispatch_onlyChanges (i : SlotNo) (s : State) :
    onlyChanges [.trunks, .slots, .attention] s (s.dispatch i) := by
  unfold State.dispatch
  split
  · split
    · exact onlyChanges_mono (State.putSlot_onlyChanges ..) (by decide)
    · dsimp only
      split
      · exact onlyChanges_mono (State.putSlot_onlyChanges ..) (by decide)
      · exact onlyChanges_trans (onlyChanges_mono (State.putSlot_onlyChanges ..) (by decide))
          (onlyChanges_mono (State.queueFrames_onlyChanges ..) (by decide))
  · exact onlyChanges_refl ..

theorem State.finish_onlyChanges (i : SlotNo) (b : Batch) (x : Dispatched) (s : State) :
    onlyChanges [.sites, .noticeOrder, .solver, .slots, .attention] s (s.finish i b x) :=
  onlyChanges_trans (onlyChanges_mono (State.putSlot_onlyChanges ..) (by decide))
    (onlyChanges_mono (State.retireTest_onlyChanges _) (by decide))

theorem State.enterInFlight_onlyChanges (i : SlotNo) (b : Batch) (x : Dispatched) (s : State) :
    onlyChanges [.sites, .noticeOrder, .solver, .slots, .attention] s (s.enterInFlight i b x) := by
  simp only [State.enterInFlight]
  split
  · exact onlyChanges_mono (State.putSlot_onlyChanges ..) (by decide)
  · exact State.finish_onlyChanges ..

theorem State.frameEnded_onlyChanges (t : TrunkNo) (sent : Bool) (i : SlotNo) (s : State) :
    onlyChanges [.sites, .noticeOrder, .solver, .slots, .attention] s (s.frameEnded t sent i) := by
  unfold State.frameEnded
  split
  · split
    · dsimp only
      split
      · exact State.enterInFlight_onlyChanges ..
      · exact onlyChanges_mono (State.putSlot_onlyChanges ..) (by decide)
    all_goals exact onlyChanges_refl ..
  · exact onlyChanges_refl ..

theorem State.freeSlot_onlyChanges (i : SlotNo) (s : State) : onlyChanges [.slots, .attention] s (s.freeSlot i) := by
  unfold State.freeSlot
  split
  · exact State.installSlots_onlyChanges ..
  · exact onlyChanges_refl ..

theorem State.disableTrunk_onlyChanges (t : TrunkNo) (s : State) :
    onlyChanges [.sites, .noticeOrder, .trunks, .solver, .slots, .attention] s (s.disableTrunk t) := by
  refine onlyChanges_trans (t := s.putTrunk t (s.trunks.get t).disabled)
    (onlyChanges_mono (State.putTrunk_onlyChanges ..) (by decide)) ?_
  refine onlyChanges_trans (onlyChanges_foldl _ (fun s i => ?_) _ _)
    (onlyChanges_trans (onlyChanges_mono (State.mapSites_onlyChanges ..) (by decide))
      (onlyChanges_mono (State.markStale_onlyChanges _) (by decide)))
  exact onlyChanges_mono (State.frameEnded_onlyChanges ..) (by decide)

theorem State.configureTrunk_onlyChanges (t : TrunkNo) (e : Bool) (r : BitRate) (g : Granularity) (b : Nat) (s : State) :
    onlyChanges [.sites, .noticeOrder, .trunks, .solver, .slots, .attention] s (s.configureTrunk t e r g b) := by
  have h : onlyChanges [.sites, .noticeOrder, .trunks, .solver, .slots, .attention] s
      (s.putTrunk t ((s.trunks.get t).configured r g b)) :=
    onlyChanges_mono (State.putTrunk_onlyChanges ..) (by decide)
  unfold State.configureTrunk
  dsimp only
  split
  · exact onlyChanges_trans h (onlyChanges_trans (onlyChanges_mono (State.putTrunk_onlyChanges ..) (by decide))
      (onlyChanges_mono (State.markStale_onlyChanges _) (by decide)))
  · exact onlyChanges_trans h (State.disableTrunk_onlyChanges ..)
  · exact h
  · exact h

theorem State.echoResult_onlyChanges (i : SiteNo) (loop turnaround : Nat) (s : State) :
    onlyChanges [.sites, .solver, .attention] s (s.echoResult i loop turnaround) := by
  unfold State.echoResult
  dsimp only
  split
  · exact State.putSite_onlyChanges ..
  · refine onlyChanges_intro rfl fun p h => ?_
    cases p <;> first | rfl | exact absurd h (by decide)

theorem State.matchEcho_onlyChanges (t : TrunkNo) (a q : Byte) (v : BitVec 16) (x : Instant) (s : State) :
    onlyChanges [.sites, .trunks, .solver, .attention] s (s.matchEcho t a q v x) := by
  unfold State.matchEcho
  dsimp only
  split
  · split
    · split
      · exact onlyChanges_trans (onlyChanges_mono (State.putTrunk_onlyChanges ..) (by decide))
          (onlyChanges_mono (State.echoResult_onlyChanges ..) (by decide))
      · exact onlyChanges_mono (State.putTrunk_onlyChanges ..) (by decide)
    · exact onlyChanges_mono (State.putTrunk_onlyChanges ..) (by decide)
  · exact onlyChanges_mono (State.putTrunk_onlyChanges ..) (by decide)

theorem State.applyNotice_onlyChanges (t : TrunkNo) (a k : Byte) (d : BitVec 16) (x : Instant) (s : State) :
    onlyChanges [.sites, .noticeOrder, .solver, .attention] s (s.applyNotice t a k d x) := by
  unfold State.applyNotice
  split
  · split
    · exact onlyChanges_refl ..
    · exact State.storeNotice_onlyChanges ..
  · exact onlyChanges_refl ..

theorem State.applyHorizon_onlyChanges (h : Nat) (s : State) :
    onlyChanges [.trunks, .slots, .attention] s (s.applyHorizon h) := by
  unfold State.applyHorizon
  refine onlyChanges_trans (onlyChanges_mono (State.installSlots_onlyChanges ..) (by decide))
    (onlyChanges_foldl _ (fun s i => State.dispatch_onlyChanges i s) _ _)

theorem State.acceptPost_onlyChanges (i : SlotNo) (b : Batch) (s : State) :
    onlyChanges [.trunks, .slots, .attention] s (s.acceptPost i b) := by
  simp only [State.acceptPost]
  have h := State.putSlot_onlyChanges i (some b) s
  split
  · exact onlyChanges_trans (onlyChanges_mono h (by decide)) (State.dispatch_onlyChanges ..)
  · exact onlyChanges_mono h (by decide)

/-! ### Command frames -/

/-- What the end of a command frame can do: nothing without a frame, a refusal by the operating state, or the command with
its answer stored. -/
theorem State.command_cases (k : CommandClass) (block : State → Answer × State) (s : State) :
    (s.port.frameOpen = false ∧ s.command k block = s)
      ∨ (∃ code, s.port.frameOpen = true ∧ notTaken k s.port.op = some code ∧ s.command k block = s.respond (bare code))
      ∨ (s.port.frameOpen = true ∧ notTaken k s.port.op = none ∧ s.command k block = (block s).2.respond (block s).1) := by
  unfold State.command
  by_cases h : s.port.frameOpen = true
  · rw [if_pos h]
    cases hk : notTaken k s.port.op with
    | none => exact .inr (.inr ⟨h, rfl, rfl⟩)
    | some code => exact .inr (.inl ⟨code, h, rfl, rfl⟩)
  · rw [if_neg h]
    exact .inl ⟨by simpa using h, rfl⟩

theorem State.respond_onlyChanges (a : Answer) (s : State) : onlyChanges [.port] s (s.respond a) := by
  refine onlyChanges_intro rfl fun p h => ?_
  cases p <;> first | rfl | exact absurd h (by decide)

/-- A command changes the port and what its block changes. -/
theorem State.command_onlyChanges {l : List Part} (k : CommandClass) (block : State → Answer × State) (s : State)
    (hp : Part.port ∈ l) (h : onlyChanges l s (block s).2) : onlyChanges l s (s.command k block) := by
  have hr : ∀ (a : Answer) (u : State), onlyChanges l u (u.respond a) := fun a u =>
    onlyChanges_mono (State.respond_onlyChanges a u) (by simpa using hp)
  rcases State.command_cases k block s with ⟨_, e⟩ | ⟨code, _, _, e⟩ | ⟨_, _, e⟩ <;> rw [e]
  · exact onlyChanges_refl l s
  · exact hr _ _
  · exact onlyChanges_trans h (hr _ _)

end Sys2Proof.Machine
end

