-- ==== Sys2Proof/Laws/SiteTable.lean ====
section
/-! SUPPORT. Everything a command can do to a site record, said once: each shared operation's effect on the site table. -/

namespace Sys2Proof.Machine

/-- The ways in which one site record can change in a step that is no reset and no change of G, U or D. -/
inductive SiteChange (s t : State) (i : SiteNo) : Prop where
  | same (h : t.sites.get i = s.sites.get i)
  | vacated (hr : (s.sites.get i).state = .retiring) (h : t.sites.get i = SiteRecord.vacant)
  | admitted (tr : TrunkNo) (a : Nat) (asym : BitVec 16) (trim : Int) (ha : 1 ≤ a ∧ a ≤ 30)
    (ht : -100000 ≤ trim ∧ trim ≤ 100000) (hv : (s.sites.get i).state = .vacant) (hp : s.placeHeld i tr a = false)
    (ho : otherSitesSame i s t) (h : t.sites.get i = SiteRecord.admitted tr a asym.toInt trim)
  | amended (x : Amendment) (hx : ∀ v ∈ x.asym, -32768 ≤ v ∧ v ≤ 32767) (hw : ∀ w ∈ x.trim, -100000 ≤ w ∧ w ≤ 100000)
    (hp : ∀ p ∈ x.place, 1 ≤ p.2 ∧ p.2 ≤ 30) (hv : (s.sites.get i).state ≠ .vacant)
    (hr : (s.sites.get i).state ≠ .retiring) (hc : s.amendmentCollides i x = false) (ho : otherSitesSame i s t)
    (h : t.sites.get i = (s.sites.get i).amended x)
  | acknowledged (h : t.sites.get i = (s.sites.get i).acknowledged s.config.driftThreshold)
    (hv : (s.sites.get i).state ≠ .vacant)
  | suspended (hp : (s.sites.get i).phase.probed = true) (h : t.sites.get i = (s.sites.get i).enterSuspended false)
  | resumed (hp : (s.sites.get i).state = .suspended) (h : t.sites.get i = (s.sites.get i).enterProbing)
  | retired (hv : (s.sites.get i).state ≠ .vacant) (h : t.sites.get i = (s.sites.get i).enterRetiring)
  | noticeTaken (h : t.sites.get i = { s.sites.get i with notice := none })
  | noticed (n : Notice) (hs : (s.sites.get i).state.takesNotices = true) (hn : (s.sites.get i).notice = none)
    (h : t.sites.get i = SiteRecord.noticeEffect n.kind { s.sites.get i with notice := some n })
  | missed (hp : (s.sites.get i).phase.probed = true) (h : t.sites.get i = applyMiss s.config (s.sites.get i))
  | sampled (y : Nat) (hy : y ≤ 16777215) (hp : (s.sites.get i).phase.probed = true)
    (h : t.sites.get i = (applySample s.config y (s.sites.get i)).record)
  | reprobed (hp : (s.sites.get i).phase.probed = true) (h : t.sites.get i = (s.sites.get i).enterProbing)

/-- What the retire-completion test can do to a record (R36). -/
def vacatedOrSame (s t : State) : Prop :=
  ∀ i, t.sites.get i = s.sites.get i ∨ ((s.sites.get i).state = .retiring ∧ t.sites.get i = SiteRecord.vacant)

theorem vacatedOrSame_refl (s : State) : vacatedOrSame s s := fun _ => .inl rfl

theorem vacatedOrSame_of_eq {s t : State} (h : t.sites = s.sites) : vacatedOrSame s t := fun _ => .inl (by rw [h])

theorem vacatedOrSame_trans {s t u : State} (h : vacatedOrSame s t) (k : vacatedOrSame t u) : vacatedOrSame s u := by
  intro i
  rcases h i with h | ⟨hr, h⟩ <;> rcases k i with k | ⟨kr, k⟩
  · exact .inl (k.trans h)
  · exact .inr ⟨h ▸ kr, k⟩
  · exact .inr ⟨hr, k.trans h⟩
  · rw [h] at kr
    cases kr

theorem State.retireTest_vacates (s : State) : vacatedOrSame s s.retireTest := by
  intro i
  simp only [State.retireTest_sites, Table.get_mapIdx]
  by_cases h : s.passesRetireTest i = true
  · refine .inr ⟨?_, by rw [if_pos h]⟩
    simp only [State.passesRetireTest, Bool.and_eq_true, decide_eq_true_eq] at h
    exact h.1.1
  · exact .inl (by rw [if_neg h])

theorem State.finish_vacates (i : SlotNo) (b : Batch) (x : Dispatched) (s : State) : vacatedOrSame s (s.finish i b x) :=
  vacatedOrSame_trans (t := s.putSlot i _) (vacatedOrSame_of_eq rfl) (State.retireTest_vacates _)

theorem State.completeSolve_vacates (b : Bool) (n : Snapshot) (s : State) : vacatedOrSame s (s.completeSolve b n) := by
  rcases State.completeSolve_cases b n s with ⟨_, e⟩ | ⟨_, e⟩ <;> rw [e]
  · exact vacatedOrSame_trans (t := (s.publish n).startSolve) (vacatedOrSame_of_eq rfl) (State.retireTest_vacates _)
  · exact vacatedOrSame_trans (t := s.publish n) (vacatedOrSame_of_eq rfl) (State.retireTest_vacates _)

theorem State.frameEnded_vacates (t : TrunkNo) (sent : Bool) (i : SlotNo) (s : State) :
    vacatedOrSame s (s.frameEnded t sent i) := by
  unfold State.frameEnded
  split
  · split
    · dsimp only
      split
      · simp only [State.enterInFlight]
        split
        · exact vacatedOrSame_of_eq rfl
        · exact State.finish_vacates _ _ _ _
      · exact vacatedOrSame_of_eq rfl
    all_goals exact vacatedOrSame_refl _
  · exact vacatedOrSame_refl _

theorem State.frameEnded_foldl_vacates (t : TrunkNo) (sent : Bool) (l : List SlotNo) (s : State) :
    vacatedOrSame s (l.foldl (fun s i => s.frameEnded t sent i) s) := by
  induction l generalizing s with
  | nil => exact vacatedOrSame_refl s
  | cons a l ih => exact vacatedOrSame_trans (State.frameEnded_vacates t sent a s) (ih _)

theorem SiteChange.of_vacates {s t : State} (h : vacatedOrSame s t) (i : SiteNo) : SiteChange s t i :=
  (h i).elim .same fun h => .vacated h.1 h.2

/-- What the disabling of a trunk can do to a record (R36, R40). -/
theorem State.disableTrunk_sites (t : TrunkNo) (s : State) (i : SiteNo) :
    (s.disableTrunk t).sites.get i = s.sites.get i
      ∨ ((s.sites.get i).state = .retiring ∧ (s.disableTrunk t).sites.get i = SiteRecord.vacant)
      ∨ ((s.sites.get i).phase.probed = true ∧ (s.disableTrunk t).sites.get i = (s.sites.get i).enterProbing) := by
  have h := State.frameEnded_foldl_vacates t false (s.trunks.get t).droppedSlots (s.putTrunk t (s.trunks.get t).disabled) i
  have e : (s.disableTrunk t).sites.get i = SiteRecord.trunkDisabled t
      (((s.trunks.get t).droppedSlots.foldl (fun s i => s.frameEnded t false i)
        (s.putTrunk t (s.trunks.get t).disabled)).sites.get i) := by
    simp [State.disableTrunk]
  rcases h with h | ⟨hr, h⟩
  · rw [h] at e
    simp only [State.putTrunk_sites] at e
    by_cases hp : ((s.sites.get i).onTrunk t && (s.sites.get i).phase.probed) = true
    · refine .inr (.inr ⟨?_, by rw [e, SiteRecord.trunkDisabled, if_pos hp]⟩)
      simp only [Bool.and_eq_true] at hp
      exact hp.2
    · exact .inl (by rw [e, SiteRecord.trunkDisabled, if_neg hp])
  · rw [h] at e
    exact .inr (.inl ⟨hr, e⟩)

/-- What a record written alone can be, as the change of every record. -/
theorem SiteChange.of_put {s t : State} {i : SiteNo} {r : SiteRecord} (h : t.sites = s.sites.set i r)
    (hi : otherSitesSame i s t → t.sites.get i = r → SiteChange s t i) (j : SiteNo) : SiteChange s t j := by
  have ho : otherSitesSame i s t := fun j hj => by rw [h, Table.get_set_ne _ hj]
  by_cases e : j = i
  · subst e
    exact hi ho (by rw [h, Table.get_set_self])
  · exact .same (ho j e)

end Sys2Proof.Machine
end

