-- ==== Sys2Proof/Tests/Slice0.lean ====
section
/-! SUPPORT. The model's own tests: the ill-formed operands that are refused; single steps whose expected results stand in the
worked sequences of the data sheet; and for each statement a state and operands that meet its hypotheses. -/

namespace Sys2Proof.Tests

-- Each theorem in its turn: checked side by side, the kernel evaluations ask for more threads than a memory limit leaves.
set_option Elab.async false

open Sys2Proof.Machine

/-! ### Ill-formed operands -/

/-- 66 members need 203 parameter bytes (R176). -/
theorem test_wellFormed_zoneDefine : (Instr.zoneDefine 0 1 255 (List.replicate 66 (0, 0))).WellFormed = false := by
  decide +kernel

/-- 195 payload bytes need 201 parameter bytes (R176). -/
theorem test_wellFormed_batchPost : (Instr.batchPost 0 0 (List.replicate 195 0)).WellFormed = false := by decide +kernel

/-- The bits of some bytes on SDI, most significant first (R176). -/
def bitsOf (bytes : List Byte) : List Bool := bytes.flatMap fun b => (List.range 8).map fun i => b.getMsbD i

/-- A frame that spells NOP is no bad frame, whatever bits of a third byte follow it. -/
theorem test_wellFormed_badCommandFrame : 
    (Instr.badCommandFrame (bitsOf [0x02, 0x00] ++ [true, false, true])).WellFormed = false := by decide

/-- The bits of some bytes on RXD as a receiver at 64,000 bit/s meets them, 625 ticks a bit (R74): each byte with how many ticks
ago its start bit came. -/
def heard (bytes : List (Byte × Nat)) : List (Bool × Nat) :=
  bytes.flatMap fun b => (byteBits b.1).zipIdx.map fun x => (x.1, b.2 - 625 * x.2)

/-- R74, by hand: after two bits at mark C5h, 1100 0101, comes as space, 1, 0, 1, 0, 0, 0, 1, 1 and mark; a mark follows, and 3Ah,
0011 1010, of whose bits the stop bit is still to come. -/
theorem test_lineBytes :
    lineBytes 0 ([true, true, false, true, false, true, false, false, false, true, true, true, true,
        false, false, true, false, true, true, true, false, false].zipIdx)
      = [{ rest := 2, start := 2, value := 0xC5, stop := some true }, { rest := 1, start := 13, value := 0x3A, stop := none }] := by
  decide +kernel

/-- R77: a stop bit at space, and a rest of 21 bits, are no frame in good order; a rest of 20 bits is. -/
theorem test_frameBytes :
    frameBytes? (byteBits 5 ++ List.replicate 20 true ++ byteBits 2) = some [5, 2]
      ∧ frameBytes? (byteBits 5 ++ List.replicate 21 true ++ byteBits 2) = none
      ∧ frameBytes? (byteBits 5 ++ (byteBits 2).dropLast ++ [false]) = none
      ∧ openFrameBytes? (byteBits 5 ++ (byteBits 2).dropLast) = some [5, 2] := by decide +kernel

/-- An ECHO with a wrong check. -/
theorem test_wellFormed_echoTaken : (Instr.echoTaken 0 (frameBits [5, 2, 7, 86, 0, 0, 0, 0])).WellFormed = false := by
  decide +kernel

/-- A NOTICE that is not complete. -/
theorem test_wellFormed_noticeArrival : (Instr.noticeArrival 0 (frameBits [6, 3, 7, 1])).WellFormed = false := by
  decide +kernel

/-- A frame in progress that fails no test. -/
theorem test_wellFormed_receiveFrameDiscard :
    (Instr.receiveFrameDiscard 0 (frameBits [5, 2]).dropLast false).WellFormed = false := by
  decide +kernel

/-- No rest at mark at all. -/
theorem test_wellFormed_receiveGap : (Instr.receiveGap 0 0).WellFormed = false := by decide

/-- A line on which no delimiter stands. -/
theorem test_wellFormed_delimiterFound : (Instr.delimiterFound 0 (heard [(0xC5, 12500), (0x3B, 6250)])).WellFormed = false := by
  decide +kernel

/-- No row of the table gives bits, so no word spells a command (log 22). -/
theorem test_decodeTableWord_none : decodeTableWord 32 0x01020001 = none := rfl

/-! ### States for the tests -/

/-- What an outcome must be to pass: a next state with this property. -/
def gives (o : Host.Outcome State Fault Refusal) (p : State → Bool) : Bool :=
  match o with
  | .next t => p t
  | .fault _ => false
  | .refused _ => false

/-- The part in READY and ALIGN mode, out of reset, with a command frame in progress. -/
def inReady : State :=
  { State.reset with
    resetUnit := { por := false, porTicks := 40000, pinLow := false }
    port := { CommandPort.cleared with op := .ready, rdy := true, frameOpen := true } }

/-- The part in READY with no command frame in progress. -/
def betweenFrames : State := { inReady with port := { inReady.port with frameOpen := false } }

/-- A state at an instant. -/
def atNow (now : Instant) (s : State) : State := { s with time := { s.time with now := now } }

/-- A state in BENCH mode. -/
def inBench (s : State) : State := { s with port := { s.port with mode := .bench } }

/-- A state with one site record written. -/
def withSite (i : SiteNo) (r : SiteRecord) (s : State) : State := { s with sites := s.sites.set i r }

/-- A state with one trunk controller written. -/
def withTrunk (k : TrunkNo) (tr : Trunk) (s : State) : State := { s with trunks := s.trunks.set k tr }

/-- A state with one zone record written. -/
def withZone (z : ZoneNo) (r : ZoneRecord) (s : State) : State := { s with zones := s.zones.set z r }

/-- A state with one batch slot written. -/
def withSlot (i : SlotNo) (b : Batch) (s : State) : State := { s with slots := s.slots.set i (some b) }

/-- Site 3 of the worked sequences, on trunk 1 at address 7 with A −120 and trim +150, after its acquisition. -/
def site3 : SiteRecord :=
  { phase := .aligned [], link := some { trunk := 1, address := 7, asym := -120, trim := 150 }
    est := some { d := 205130, reported := 205130 }, s := 10, m := 0, drift := false, notice := none }

/-- Site 3 in another phase. -/
def site3In (p : SitePhase) : SiteRecord := { site3 with phase := p }

/-- Site 7 of the worked sequences, in HOLDOVER with u 100 under G 12. -/
def site7 : SiteRecord :=
  { phase := .holdover [] 5, link := some { trunk := 2, address := 5, asym := 0, trim := -30 }
    est := some { d := 98775, reported := 98775 }, s := 40, m := 3, drift := false, notice := none }

/-- An enabled trunk at 64,000 bit/s with g 10. -/
def trunkOn : Trunk :=
  { Trunk.cleared with enable := true, rate := .r64000, gran := .du10, timer := .running 1000000, framer := .hunting }

/-- The probe of site 3 that chapter 4 follows. -/
def probeOf3 : Outstanding :=
  { site := 3, trunk := 1, address := 7, seq := 86, instant := 70000000, deadline := 70500000 }

/-- The parameters of chapter 3's sequences. -/
def params3 : Params := { Params.cleared with jumpLimit := 400, driftThreshold := 1000 }

/-- Zone 4 of chapters 6 and 7. -/
def zone4 : ZoneBody := { tolerance := 250, members := [(3, 334), (7, 512), (12, 90)], yieldMember := some 12 }

/-- The snapshot of chapter 7's worked example. -/
def snapshot7 : Snapshot :=
  { sites :=
      (((Table.replicate 64 (SnapSite.ineligible .vacant)).set 3
        (.eligible { trunk := 1, address := 7, d := 205139, trim := 150, u := 17 })).set 7
        (.eligible { trunk := 2, address := 5, d := 98775, trim := -30, u := 100 })).set 12
        (.eligible { trunk := 4, address := 2, d := 310004, trim := 600, u := 20 })
    enables := Table.replicate 8 true
    grans := ((Table.replicate 8 Granularity.du1).set 1 .du10).set 2 .du100
    zones := [{ zone := 4, revision := 1, body := zone4 }]
    horizon := 500000
    calibrated := true }

/-- Tag 52 of chapter 8 as it is posted. -/
def batch52 : Batch :=
  { tag := 52, posting := 0, payload := List.replicate 40 0, requested := 69611250, actual := 69611250
    dispatch := 69111250, slipped := false, phase := .pending }

/-- The hold list of trunk 1 in chapter 8's sequence. -/
def list1 : HoldList :=
  { trunk := 1
    entries :=
      [{ site := 3, address := 7, rawHold := 295011, fixed := none }, { site := 9, address := 12, rawHold := 179958, fixed := none }] }

/-- What tag 52 holds while the frame of trunk 1 alone is still to end. -/
def dispatched52 : Dispatched :=
  { epoch := 31, planHorizon := 500000, holdLists := [list1]
    report := { result := .launched, sent := 3, late := 1, dropped := 0, lateList := [(44, 4739050)] } }

/-! ### The time base -/

/-- The first five ticks of chapter 1 with F 4,193,465: the fifth advances now and leaves 4,190,109. -/
theorem test_oscillatorTick :
    gives (exec .oscillatorTick { inReady with time := { inReady.time with f := 4193465, fraction := 16773860 } })
      (fun t => decide (t.time.now = 1 ∧ t.time.fraction = 4190109 ∧ t.time.rawCount = 1)) = true := by decide +kernel

/-- The measurement of chapter 1: E 1,000,000 and C 4,000,800 give F 4,193,465. -/
theorem test_calFallingEdge :
    gives (exec .calFallingEdge { inReady with time := { inReady.time with
        calPin := true, rawCount := 4000800
        cal := .measuring { returnCalibrated := false, e := 1000000, deadline := 53000000, phase := .pulseHigh 0 } } })
      (fun t => decide (t.time.cal = .calibrated ∧ t.time.f = 4193465) && t.attention.present.cal) = true := by
  decide +kernel

/-- The window deadline lies 3 × E ahead. -/
theorem test_calStart :
    gives (exec (.calStart 1000000) (atNow 50000000 inReady))
      (fun t => decide (t.time.cal = .measuring
        { returnCalibrated := false, e := 1000000, deadline := 53000000, phase := .awaitingRise })) = true := by
  decide +kernel

/-! ### Sites and the tracker -/

/-- The admission of chapter 2: site 3 at trunk 1, address 7, A −120, trim +150. -/
theorem test_siteAdmit :
    gives (exec (.siteAdmit 3 1 7 0xFF88 150) inReady)
      (fun t => decide ((t.sites.get 3).phase = .probing [] ∧ (t.sites.get 3).link = site3.link) && t.solver.stale)
      = true := by decide +kernel

/-- The acquisition of chapter 3 completes at the fifth sample with d 205,130 and s 10. -/
theorem test_acquisition :
    (applySample params3 205119 (site3In (.probing [204500, 205120, 205150, 205131]))).record = site3 := by decide +kernel

/-- Result 1 of the tracking sequence: L 412,520 and T 2,000 give the sample 205,200, d 205,139 and s 17. -/
theorem test_accepted_sample :
    sample? 412520 2000 (-120) = some 205200
      ∧ (applySample params3 205200 site3).record
          = { site3 with est := some { d := 205139, reported := 205130 }, s := 17 } := by decide +kernel

/-- Result 11: the third candidate re-seats at d 206,300 with s 7, and drift becomes pending. -/
theorem test_reseat :
    applySample params3 206311
        { site3In (.holdover [206300, 206290] 3) with est := some { d := 205138, reported := 205130 }, s := 16, m := 0 }
      = { record := { site3 with est := some { d := 206300, reported := 205130 }, s := 7, drift := true }
          completed := false, reseated := true } := by decide +kernel

/-- Result 5: the third miss enters HOLDOVER. -/
theorem test_third_miss :
    applyMiss params3 { site3 with m := 2 } = { site3In (.holdover [] 0) with m := 3 } := by decide +kernel

/-- Continuation a of chapter 3: at h 164 and G 12 the site's u of 2,008 sends it to SUSPECT, with m 3 kept. -/
theorem test_holdover_runs_out :
    applyMiss { params3 with growth := 12 } { site7 with phase := .holdover [] 163 }
      = { site7 with phase := .suspect [] } := by decide +kernel

/-- Continuation b of chapter 3: U at 90 sends site 7 to SUSPECT at once. -/
theorem test_configSetUncertaintyCeiling :
    gives (exec (.configSetUncertaintyCeiling 90) { withSite 7 site7 inReady with config := { params3 with growth := 12 } })
      (fun t => decide (t.sites.get 7 = { site7 with phase := .suspect [] }) && t.solver.stale
        && t.attention.present.suspect && !t.attention.present.holdover) = true := by decide +kernel

/-- The acknowledgement of chapter 2: the reported delay becomes 205,139 and DRIFT goes. -/
theorem test_siteRead_acknowledges :
    gives (exec (.siteRead 3 1) (withSite 3
        { site3 with est := some { d := 205139, reported := 205130 }, s := 17, drift := true } inReady))
      (fun t => decide (t.sites.get 3 = { site3 with est := some { d := 205139, reported := 205139 }, s := 17 })
        && !t.attention.present.drift && !t.solver.stale) = true := by decide +kernel

/-- The host cannot resume a site that the site itself took out of service (chapter 2). -/
theorem test_siteResume_held :
    gives (exec (.siteResume 3) (withSite 3 (site3In (.suspended true)) inReady))
      (fun t => decide (t.port.response = some { code := .siteHeld, data := [] }
        ∧ t.sites.get 3 = site3In (.suspended true))) = true := by decide +kernel

/-! ### Trunks -/

/-- Chapter 4: after site 21 the choice wraps to site 3. -/
theorem test_slotDeadlineExpiry :
    gives (exec (.slotDeadlineExpiry 1) (atNow 70000000 (withSite 3 site3
        (withTrunk 1 { trunkOn with timer := .running 70000000, lastProbed := some 21 } inReady))))
      (fun t => decide ((t.trunks.get 1).timer = .waiting 3)) = true := by decide +kernel

/-- Chapter 4: the probe to site 3 with sequence number 86, timeout 70,500,000 under Q 500,000, slot deadline 71,000,000. -/
theorem test_probeFrameStart :
    gives (exec (.probeFrameStart 1) { atNow 70000000 (withSite 3 site3
        (withTrunk 1 { trunkOn with timer := .waiting 3, nextSeq := 86 } inReady)) with
        config := { params3 with probeTimeout := 500000 } })
      (fun t => decide ((t.trunks.get 1).outstanding = some probeOf3 ∧ (t.trunks.get 1).timer = .running 71000000
        ∧ (t.trunks.get 1).nextSeq = 87 ∧ (t.trunks.get 1).lastProbed = some 3)) = true := by decide +kernel

/-- Chapters 3 and 4: the echo with delimiter instant 70,412,520 and T 2,000 closes the probe and brings d to 205,139. -/
theorem test_echoTaken :
    gives (exec (.echoTaken 1 (frameBits (echoBytes 7 86 2000))) { atNow 70428145 (withSite 3 site3
        (withTrunk 1 { trunkOn with framer := .collecting 70412520, outstanding := some probeOf3 } inReady)) with
        config := params3 })
      (fun t => decide ((t.trunks.get 1).outstanding = none ∧ (t.sites.get 3).d = 205139 ∧ (t.sites.get 3).s = 17))
      = true := by decide +kernel

/-- Chapter 4: an echo that finds no probe outstanding raises the stray echo count. -/
theorem test_echoTaken_stray :
    gives (exec (.echoTaken 1 (frameBits (echoBytes 3 87 0)))
        (withTrunk 1 { trunkOn with framer := .collecting 71930000 } inReady))
      (fun t => decide ((t.trunks.get 1).strays = 1 ∧ (t.trunks.get 1).framer = .hunting)) = true := by decide +kernel

/-- Chapter 4: the delimiter of site 3's echo began at 70,412,520; found 20 bit times later, 12,500 ticks and 3,125 du. -/
theorem test_delimiterFound :
    gives (exec (.delimiterFound 1 (heard [(0x00, 30000), (0xC5, 18750), (0xC5, 12500), (0x3A, 6250)])) (withTrunk 1 trunkOn
        { inReady with time := { inReady.time with now := 70415645, sinceF := 12500 } }))
      (fun t => decide ((t.trunks.get 1).framer = .collecting 70412520)) = true := by decide +kernel

/-- R74: 625 ticks a bit at 64,000 bit/s. The byte C5h: start bit, 1, 0, 1, 0, 0, 0, 1, 1, stop bit, then mark. -/
theorem test_txd :
    [0, 624, 625, 1250, 1875, 2500, 3125, 3750, 4375, 5000, 5625, 6250].map
        (fun raw => lineLevel .r64000 [0xC5] 0 (BitVec.ofNat 32 raw))
      = [false, false, true, false, true, false, false, false, true, true, true, true] := by decide +kernel

/-- Ten bytes at 64,000 bit/s take 15,625 du, four ticks each (chapter 4, the table of bit rates). -/
theorem test_frameTicks : frameTicks .r64000 10 = 62500 ∧ frameTicks .r9600 1 = 41666 := by decide +kernel

/-- Chapter 5: SERVICE_OFF suspends site 3 and holds it. -/
theorem test_noticeArrival :
    gives (exec (.noticeArrival 1 (frameBits (noticeBytes 7 4 0 9))) (withSite 3 site3
        (withTrunk 1 { trunkOn with framer := .collecting 80200000 } inReady)))
      (fun t => decide ((t.sites.get 3).phase = .suspended true ∧ t.noticeOrder = [3]
        ∧ (t.trunks.get 1).replyQueue = [{ address := 7, seq := 9, decision := .taken }]) && t.attention.present.notice)
      = true := by decide +kernel

/-- Chapter 5: NOTICE.TAKE answers site 3, PA_FAULT, detail 0003h, arrival instant 80,050,000, one notice remaining. -/
theorem test_noticeTake :
    gives (exec .noticeTake { withSite 3
        { site3 with notice := some { kind := .paFault, detail := 3, instant := 80050000 } } inReady with noticeOrder := [3, 7] })
      (fun t => decide (t.noticeOrder = [7] ∧ t.port.response = some
        { code := .ok, data := [3, 1, 0, 3, 0x04, 0xC5, 0x77, 0x50, 1] })) = true := by decide +kernel

/-! ### Solves -/

/-- Chapter 7: raw holds, quantized holds and launch offsets of sites 3, 7 and 12. -/
theorem test_launchOffset :
    launchOffset 500000 .du10 { trunk := 1, address := 7, d := 205139, trim := 150, u := 17 } = 500149
      ∧ launchOffset 500000 .du100 { trunk := 2, address := 5, d := 98775, trim := -30, u := 100 } = 499975
      ∧ launchOffset 500000 .du1 { trunk := 4, address := 2, d := 310004, trim := 600, u := 20 } = 500600 := by
  decide +kernel

/-- Chapter 7: the first pass finds a spread of 323, the second 200; site 12 is MUTED. -/
theorem test_solve :
    snapshot7.firstPass zone4 = (.violated, some 323)
      ∧ (snapshot7.plan 31).zones
          = [{ zone := 4, revision := 1, firstPass := .violated, final := .satisfied, spread := some 200 }]
      ∧ (snapshot7.plan 31).sites.get 12
          = .muted { trunk := 4, address := 2, rawHold := 190596, short := false } := by decide +kernel

/-- Chapter 7: the same snapshot uncalibrated mutes nothing and gives a PROVISIONAL plan. -/
theorem test_solve_uncalibrated :
    (Snapshot.plan { snapshot7 with calibrated := false } 31).provisional = true
      ∧ (Snapshot.plan { snapshot7 with calibrated := false } 31).sites.get 12
          = .launch { trunk := 4, address := 2, rawHold := 190596, short := false } := by decide +kernel

/-- Chapter 7, the marks that cross a solve: the completion publishes the next epoch and leaves the solver IDLE. -/
theorem test_solveCompletion :
    gives (exec .solveCompletion { inReady with solver :=
        { stale := false, running := some { snapshot := snapshot7, start := 10000000 }, latest := some (snapshot7.plan 30) } })
      (fun t => decide (t.solver.epoch = 31 ∧ t.solver.running = none) && !t.attention.present.zone) = true := by
  decide +kernel

/-- R129: with the start taken first the next snapshot is taken before site 12 is vacated, whose mark then asks for one more. -/
theorem test_solveCompletion_starts_first :
    let t := State.completeSolve true { snapshot7 with sites := snapshot7.sites.set 12 (.ineligible .state) }
      { withSite 12 { site7 with phase := .retiring } inReady with solver := { stale := true, running := none, latest := none } }
    (decide ((t.sites.get 12).state = .vacant) && t.solver.stale
      && decide (t.solver.running.map (fun v => v.snapshot.sites.get 12) = some (.ineligible .state))) = true := by
  decide +kernel

/-! ### Batches -/

/-- Chapter 8: tag 52 posted at 68,900,000 under H 500,000 is PENDING with dispatch instant 69,111,250. -/
theorem test_batchPost :
    gives (exec (.batchPost 52 69611250 (List.replicate 40 0))
        { atNow 68900000 inReady with config := { params3 with horizon := 500000 } })
      (fun t => decide (t.slots.get 0 = some batch52 ∧ t.port.response = some { code := .ok, data := [] })) = true := by
  decide +kernel

/-- Chapter 8: the frame of trunk 1 starts 1,250 du late with the holds 293,760 and 178,710. -/
theorem test_startFrame :
    (startFrame 1 .du10 69112500 { batch52 with phase := .dispatching dispatched52 1 }).2.map (fun e => e.fixed)
      = [some { hold := 293760, lateness := 0 }, some { hold := 178710, lateness := 0 }] := by decide +kernel

/-- Chapter 8: site 44's frame starts 28,750 du late; its hold is 0 and its lateness 4,739,050. -/
theorem test_fixedHold : fixedHold .du100 (-4710300 - 28750) = { hold := 0, lateness := 4739050 } := by decide +kernel

/-- Chapter 8: the last frame ends, the batch is IN_FLIGHT with settle deadline 69,811,250 and counts five sent. -/
theorem test_frameEnd :
    gives (exec (.frameEnd 1) (atNow 69201563 (withSlot 0 { batch52 with phase := .dispatching dispatched52 1 }
        (withTrunk 1 { trunkOn with tx := some { item := .batch 0, frame := [], startRaw := 0 } } inReady))))
      (fun t => decide ((t.slots.get 0).map Batch.phase = some (.inFlight
        { dispatched52 with report := { dispatched52.report with sent := 5 } } 69811250))) = true := by decide +kernel

/-- Chapter 8: BATCH.REPORT returns tag 52's report and frees its slot. -/
theorem test_batchReport :
    gives (exec .batchReport (withSlot 0
        { batch52 with phase := .done { dispatched52 with report := { dispatched52.report with sent := 5 } } } inReady))
      (fun t => decide (t.slots.get 0 = none ∧ t.port.response.map Answer.data = some
        [52, 0, 0x04, 0x26, 0x2E, 0xF2, 0x04, 0x26, 0x2E, 0xF2, 0x04, 0x1E, 0x8D, 0xD2, 0, 31, 5, 1, 0, 1,
          44, 0x48, 0x4F, 0xEA]))
      = true := by decide +kernel

/-- Chapter 8: H raised to 800,000 at 69,650,000 moves tag 54's dispatch instant to 70,100,000 and marks the plan stale. -/
theorem test_configSetHorizon :
    gives (exec (.configSetHorizon 800000) { atNow 69650000 (withSlot 1
        { batch52 with tag := 54, requested := 70900000, actual := 70900000, dispatch := 70400000 } inReady) with
        config := { params3 with horizon := 500000 } })
      (fun t => decide ((t.slots.get 1).map Batch.dispatch = some 70100000
        ∧ (t.slots.get 1).map Batch.actual = some 70900000) && t.solver.stale) = true := by decide +kernel

/-- Chapter 8: tag 53 has passed its new dispatch instant; it is slipped to 70,450,000 and dispatched at once. -/
theorem test_configSetHorizon_slips :
    gives (exec (.configSetHorizon 800000) { atNow 69650000 (withSlot 1
        { batch52 with tag := 53, requested := 70200000, actual := 70200000, dispatch := 69700000 } inReady) with
        config := { params3 with horizon := 500000 } })
      (fun t => decide ((t.slots.get 1).map Batch.actual = some 70450000 ∧ (t.slots.get 1).map Batch.dispatch = some 69650000
        ∧ (t.slots.get 1).map Batch.slipped = some true)) = true := by decide +kernel

/-! ### Port and reset -/

/-- Frame A of chapter 10: the waiting NOP answer shifts out behind the header. -/
theorem test_commandFrameStart :
    gives (exec .commandFrameStart betweenFrames)
      (fun t => decide (t.port.sdo.length = 6 ∧ t.port.sdo.head? = some 0 ∧ t.port.response = none)) = true := by
  decide +kernel

/-- Frame C of chapter 10: a frame sent while RDY is low is answered PENDING and leaves the answer waiting. -/
theorem test_pendingFrame :
    gives (exec .pendingFrame { betweenFrames with port := { betweenFrames.port with rdy := false } })
      (fun t => decide (t.port.sdo.head? = some 1 ∧ t.port.response = betweenFrames.port.response)) = true := by
  decide +kernel

/-- Chapter 11: INIT in BENCH mode with self-test enters TESTING; a self-test that passes enters READY. -/
theorem test_init_and_selfTestEnd :
    gives (exec (.init 1 1) inReady) (fun t => decide (t.port.op = .testing ∧ t.port.mode = .bench)
        && gives (exec (.selfTestEnd true true true true) t) (fun u => decide (u.port.op = .ready))) = true := by
  decide +kernel

/-- Chapter 11: trunk 0 enabled at now 200,000 has its slot deadline at 1,200,000. -/
theorem test_trunkSet :
    gives (exec (.trunkSet 0 1 64000 1 100000) (atNow 200000 inReady))
      (fun t => decide ((t.trunks.get 0).timer = .running 1200000) && t.solver.stale) = true := by decide +kernel

/-- Chapter 11: a probe to address 1 at 1,200,000 under a bench delay of 100,000 has its echo due at 1,300,000. -/
theorem test_bench_probe :
    ((BenchResponder.empty).answerProbe 1200000 100000 1 0).undelivered = [{ address := 1, seq := 0, due := 1300000 }] := by
  decide +kernel

/-! ### States and operands that meet the hypotheses of the statements

One theorem a statement that has hypotheses; the statements about every command and state without hypotheses have none. -/

/-- A measurement of E 100,000 in a phase. -/
def measurement (p : MeasurePhase) : Measurement := { returnCalibrated := true, e := 100000, deadline := 300000, phase := p }

/-- The part measuring in a phase, with the CAL pin at a level. -/
def measuring (p : MeasurePhase) (pin : Bool) : State :=
  { inReady with time := { inReady.time with cal := .measuring (measurement p), calPin := pin } }

theorem witness_StepTakesFrontCommand :
    State.pending { inReady with pending := [.nop, .status] } = .nop :: [.status] ∧ inReady.pending = [] := ⟨rfl, rfl⟩

theorem witness_CommandFramesSpellCommands :
    List.length ([false, true, true, false, true, false, true] : List Bool) < 8
      ∧ sdiBytes (bitsOf [0x02, 0xF0] ++ [false, true, true, false, true, false, true]) = [0x02, 0xF0]
      ∧ List.length ([0x02] : List Byte) < 2 ∧ parseFrame [0x05, 0] = .error .badCommand
      ∧ 200 < (201 : Byte).toNat ∧ List.length ([] : List Byte) < (1 : Byte).toNat ∧ (200 : Byte).toNat ≤ 200
      ∧ List.length (List.replicate 200 (0 : Byte)) = 200
      ∧ parseFrame (0x50 :: 200 :: (List.replicate 5 0 ++ [194] ++ List.replicate 194 0))
          = .ok (.batchPost 0 0 (List.replicate 194 0))
      ∧ parseFrame (0x50 :: 201 :: (List.replicate 5 0 ++ [195] ++ List.replicate 195 0)) = .error .badLength
      ∧ parseFrame [0x40, 5, 0, 0, 0, 0, 0] = .ok (.zoneDefine 0 0 0 [])
      ∧ parseFrame [0x40, 6, 0, 0, 0, 0, 0, 0] = .error .badLength
      ∧ parseFrame [0x50, 6, 0, 0, 0, 0, 0, 0] = .ok (.batchPost 0 0 [])
      ∧ parseFrame [0x10, 5, 9, 0, 0, 0, 0] = .ok (.configSetAttentionMask 0) := by decide +kernel

theorem witness_CommandFrameRoundTrip :
    (Instr.calStart 10000000).WellFormed = true ∧ encodeFrame (.calStart 10000000) = some [0x20, 3, 0x98, 0x96, 0x80]
      ∧ List.length (List.replicate 7 true) < 8
      ∧ (Instr.zoneDefine 4 100 12 (List.replicate 65 (0, 0))).WellFormed = true
      ∧ (encodeFrame (.zoneDefine 4 100 12 (List.replicate 65 (0, 0)))).isSome = true
      ∧ (Instr.batchPost 5 0 (List.replicate 194 0xAA)).WellFormed = true
      ∧ (encodeFrame (.batchPost 5 0 (List.replicate 194 0xAA))).isSome = true := by decide +kernel

theorem witness_ResetLinesClearAndRelease :
    State.resetUnit { inReady with resetUnit := { por := false, porTicks := 0, pinLow := true } }
        = { por := false, porTicks := 0, pinLow := true }
      ∧ State.reset.resetUnit.por = true ∧ 40000 ≤ ResetUnit.porTicks { por := true, porTicks := 40000, pinLow := false }
      ∧ ResetUnit.porTicks { por := true, porTicks := 39999, pinLow := false } < 40000
      ∧ inReady.resetUnit.pinLow = false ∧ inReady.resetUnit.por = false := by decide +kernel

theorem witness_InitClearsAndSetsMode :
    inReady.port.frameOpen = true ∧ inReady.port.op ≠ .testing ∧ (0 : Byte).toNat = Mode.align.toNat
      ∧ (1 : Byte).toNat = Mode.bench.toNat ∧ 1 < (2 : Byte).toNat := by decide +kernel

theorem witness_SelfTestEnds :
    inReady.port.op ≠ .testing ∧ CommandPort.op { inReady.port with op := .testing } = .testing := by decide +kernel

/-- The sum just below and just at 2^24; RDY already high, and RDY low 1,000 and 1,001 du after SEL rose. -/
theorem witness_OscillatorTickCounts :
    inReady.held = false ∧ inReady.time.fraction < 16777216 ∧ inReady.time.nowAt 0 = some 0
      ∧ 12582911 + inReady.time.f < 16777216 ∧ 16777216 ≤ 12582912 + inReady.time.f
      ∧ inReady.port.selRise = none ∧ CommandPort.selRise { inReady.port with selRise := some 0 } = some 0
      ∧ ¬1000 < ((1000 : Instant) - 0).toNat ∧ 1000 < ((1001 : Instant) - 0).toNat
      ∧ State.reset.resetUnit.por = true
      ∧ State.resetUnit { inReady with resetUnit := { por := false, porTicks := 0, pinLow := true } }
          = { por := false, porTicks := 0, pinLow := true } := by decide +kernel

theorem witness_CalEdgesAndWindow :
    (measuring .awaitingRise true).time.calPin = true ∧ (measuring .awaitingRise false).time.calPin = false
      ∧ inReady.time.cal = .uncalibrated
      ∧ (∀ m, (measuring .awaitingLow true).time.cal = .measuring m → m.phase = .awaitingLow)
      ∧ (measuring .awaitingLow true).time.cal = .measuring (measurement .awaitingLow)
      ∧ (measurement (.pulseHigh 0)).phase ≠ .awaitingRise ∧ (measurement .awaitingRise).phase = .awaitingRise
      ∧ (measurement .awaitingLow).deadline ≠ (atNow 299999 (measuring .awaitingLow true)).time.now
      ∧ (measurement .awaitingLow).deadline = (atNow 300000 (measuring .awaitingLow true)).time.now :=
  ⟨rfl, rfl, rfl, (fun m h => by injection h with h; rw [← h]; rfl), rfl, by decide, rfl, by decide, rfl⟩

/-- E 100,000 accepts a count 8,000 from 400,000 and refuses one 8,001 from it, on either side. -/
theorem witness_PulseEndFormsRateFactor :
    (measuring (.pulseHigh 0) true).time.calPin = true
      ∧ (measuring (.pulseHigh 0) true).time.cal = .measuring (measurement (.pulseHigh 0))
      ∧ 0 ≤ (measuring (.pulseHigh 0) true).time.sinceF ∧ 408000 = ((408000 : BitVec 32) - 0).toNat
      ∧ (((408000 : Nat) : Int) - 4 * 100000).natAbs ≤ 4 * 100000 / 50
      ∧ (((392000 : Nat) : Int) - 4 * 100000).natAbs ≤ 4 * 100000 / 50
      ∧ 4 * 100000 / 50 < (((408001 : Nat) : Int) - 4 * 100000).natAbs
      ∧ 4 * 100000 / 50 < (((391999 : Nat) : Int) - 4 * 100000).natAbs := by decide +kernel

theorem witness_CalStartBeginsMeasurement :
    inReady.ready ∧ (measuring .awaitingRise false).ready
      ∧ (measuring .awaitingRise false).time.cal = .measuring (measurement .awaitingRise)
      ∧ (∀ m, inReady.time.cal ≠ .measuring m) ∧ (99999 : BitVec 24).toNat < 100000 ∧ 10000000 < (10000001 : BitVec 24).toNat
      ∧ 100000 ≤ (100000 : BitVec 24).toNat ∧ (10000000 : BitVec 24).toNat ≤ 10000000 :=
  ⟨⟨rfl, rfl⟩, ⟨rfl, rfl⟩, rfl, (fun m h => by cases h), by decide, by decide, by decide, by decide⟩

theorem witness_CommandsNotTakenChangeNothing :
    hostCommand .timeRead = some .readyOnly ∧ betweenFrames.port.frameOpen = false
      ∧ CommandPort.op { inReady.port with op := .uninit } ≠ .ready ∧ hostCommand (.init 0 0) = some .initial
      ∧ CommandPort.op { inReady.port with op := .testing } = .testing ∧ inReady.port.frameOpen = true := by decide +kernel

theorem witness_ReadingCommandsChangeNothing :
    inReady.ready ∧ (withZone 31 { body := some zone4, revision := 1 } inReady).ready
      ∧ (7 : Byte).toNat = (7 : TrunkNo).val ∧ 8 ≤ (8 : Byte).toNat ∧ (31 : Byte).toNat = (31 : ZoneNo).val
      ∧ ((withZone 31 { body := some zone4, revision := 1 } inReady).zones.get 31).body = some zone4
      ∧ (inReady.zones.get 31).body = none ∧ 32 ≤ (32 : Byte).toNat ∧ (63 : Byte).toNat = (63 : SiteNo).val
      ∧ 1 ≤ (1 : Byte).toNat ∧ (16 : Byte).toNat ≤ 16 ∧ 64 ≤ (64 : Byte).toNat ∧ (0 : Byte).toNat = 0
      ∧ 16 < (17 : Byte).toNat :=
  ⟨⟨rfl, rfl⟩, ⟨rfl, rfl⟩, by decide +kernel⟩

/-- R14: one du before the window deadline TIME.READ answers MEASURING with lead 1; in its du it answers the return state and
CAL_TIMEOUT, and changes no state. -/
theorem test_timeRead_at_deadline :
    (TimeBase.readData { inReady.time with now := 299999, cal := .measuring (measurement .awaitingLow) }).drop 12
        = [1, 1, 0, 0, 0, 1, 0] ++ List.replicate 15 0
      ∧ (TimeBase.readData { inReady.time with now := 300000, cal := .measuring (measurement .awaitingLow) }).drop 12
        = [2, 0, 0, 0, 0, 0, 0, 2, 0x01, 0x86, 0xA0, 0, 0, 0, 0, 0, 0, 0, 0x00, 0x04, 0x93, 0xE0]
      ∧ gives (exec .timeRead (atNow 300000 (measuring .awaitingLow true)))
          (fun t => decide (t.time.cal = .measuring (measurement .awaitingLow))) = true := by decide +kernel

/-- The data of ZONE.READ with an entry of the plan and without one, of TIME.READ in a measurement. -/
theorem witness_ReadingCommands_entries :
    (snapshot7.plan 31).zones
        = [] ++ { zone := 4, revision := 1, firstPass := .violated, final := .satisfied, spread := some 200 } :: []
      ∧ (∀ e ∈ (snapshot7.plan 31).zones, e.zone ≠ 5)
      ∧ (measuring .awaitingRise false).time.cal = .measuring (measurement .awaitingRise)
      ∧ 1 ≤ ((measurement .awaitingRise).deadline - 299999).toNat
      ∧ ((measurement .awaitingRise).deadline - 300000).toNat = 0 := by decide +kernel

theorem witness_ConfigGetReadsParameters : inReady.ready := ⟨rfl, rfl⟩

/-- RDY low with its rise still to be told. -/
def rdyLow : State :=
  { betweenFrames with port := { betweenFrames.port with rdy := false, selRise := some 0 } }

theorem witness_FramesShiftOutHeaders :
    betweenFrames.port.frameOpen = false ∧ betweenFrames.held = false ∧ betweenFrames.port.rdy = true
      ∧ betweenFrames.port.response = some { code := .ok, data := [] } ∧ rdyLow.port.rdy = false
      ∧ rdyLow.port.selRise.isSome = true ∧ rdyLow.pendingSdoBit? 7 = some true ∧ rdyLow.pendingSdoBit? 6 = some false
      ∧ inReady.port.frameOpen = true ∧ State.reset.held = true
      ∧ State.reset.port.rdy = false ∧ State.reset.port.selRise = none
      ∧ CommandPort.sdo { inReady.port with sdo := [0, 9] } = [0, 9]
      ∧ CommandPort.clockedOut 2 { inReady.port with sdo := [0, 9] } = 0 := by decide +kernel

/-- A set with CAL and DRIFT has the top cause 2, the empty set 0. -/
theorem witness_FramesShiftOutHeaders_top :
    CauseSet.topIs { CauseSet.none with cal := true, drift := true } 2 ∧ CauseSet.none.topIs 0 :=
  ⟨.inr ⟨.cal, rfl, rfl, fun d => by cases d <;> decide⟩, .inl ⟨rfl, fun c => by cases c <;> rfl⟩⟩

theorem witness_BadFramesReachNoBlock :
    inReady.port.frameOpen = true ∧ parseFrame (sdiBytes (bitsOf [0x20, 2, 0, 0])) = .error .badLength
      ∧ parseFrame [0x05, 0] = .error .badCommand ∧ parseFrame [0x10, 5, 0, 0, 0, 0, 0] = .error .unknownParameter
      ∧ betweenFrames.port.frameOpen = false ∧ parseFrame [0x02, 0] = .ok .nop := by decide +kernel

theorem witness_AckAndMask :
    inReady.ready ∧ (0x001 : BitVec 16) &&& 0x1DD#16 ≠ 0 ∧ (0xFE22 : BitVec 16) &&& 0x1DD#16 = 0 :=
  ⟨⟨rfl, rfl⟩, by decide, by decide⟩

/-- P at Q and just above it, Q at P and just below it. -/
theorem witness_ConfigSetClampsAndStores :
    inReady.ready ∧ max 10000 (min 10000000 (200000 : BitVec 32).toNat) ≤ inReady.config.probeTimeout
      ∧ inReady.config.probeTimeout < max 10000 (min 10000000 (200001 : BitVec 32).toNat)
      ∧ inReady.config.probePeriod ≤ max 1000 (min 9999999 (1000000 : BitVec 32).toNat)
      ∧ max 1000 (min 9999999 (999999 : BitVec 32).toNat) < inReady.config.probePeriod :=
  ⟨⟨rfl, rfl⟩, by decide +kernel⟩

theorem witness_ConfigSetReachesEverySite :
    inReady.ready ∧ min 255 (10 : BitVec 32).toNat = inReady.config.growth
      ∧ min 255 (0xFFFFFFFF : BitVec 32).toNat ≠ inReady.config.growth
      ∧ max 10 (min 65535 (2000 : BitVec 32).toNat) = inReady.config.ceiling
      ∧ max 10 (min 65535 (0 : BitVec 32).toNat) ≠ inReady.config.ceiling
      ∧ min 1000000 (0 : BitVec 32).toNat = inReady.config.driftThreshold
      ∧ min 1000000 (1000001 : BitVec 32).toNat ≠ inReady.config.driftThreshold :=
  ⟨⟨rfl, rfl⟩, by decide +kernel⟩

/-- Tag 52 in slot 0, at an instant. -/
def posted52 (now : Instant) (p : BatchPhase) : State := atNow now (withSlot 0 { batch52 with phase := p } inReady)

/-- H 500,000 would give tag 52 the dispatch instant 69,111,250: ahead at the instant before it, no longer ahead at it. -/
theorem witness_ConfigSetHorizonMovesPending :
    (posted52 69111249 .pending).ready ∧ max 10000 (min 16000000 (1000000 : BitVec 32).toNat) = inReady.config.horizon
      ∧ max 10000 (min 16000000 (500000 : BitVec 32).toNat) = 500000 ∧ 500000 ≠ inReady.config.horizon
      ∧ (posted52 0 .pending).slots.get 1 = none ∧ (posted52 0 .pending).slots.get 0 = some batch52
      ∧ (BatchPhase.done dispatched52 ≠ .pending) ∧ batch52.phase = .pending
      ∧ isLater (batch52.actual - BitVec.ofNat 32 500000) (posted52 69111249 .pending).time.now = true
      ∧ isLater (batch52.actual - BitVec.ofNat 32 500000) (posted52 69111250 .pending).time.now = false :=
  ⟨⟨rfl, rfl⟩, by decide +kernel⟩

theorem witness_TrunkSetConfiguresAndEnables :
    inReady.ready ∧ (withTrunk 7 trunkOn inReady).ready ∧ 8 ≤ (8 : Byte).toNat
      ∧ (∀ r : BitRate, r.bps ≠ (115200 : BitVec 24).toNat) ∧ (∀ g : Granularity, g.du ≠ (2 : Byte).toNat)
      ∧ (7 : TrunkNo).val = (7 : Byte).toNat ∧ BitRate.r64000.bps = (64000 : BitVec 24).toNat
      ∧ Granularity.du10.du = (10 : Byte).toNat ∧ ((withTrunk 7 trunkOn inReady).trunks.get 7).enable = true
      ∧ ((withTrunk 7 trunkOn inReady).trunks.get 7).rate ≠ .r9600 ∧ ((withTrunk 7 trunkOn inReady).trunks.get 7).gran ≠ .du1
      ∧ (inReady.trunks.get 7).enable = false ∧ (0xFF : Byte) ≠ 0
      ∧ ((withTrunk 7 trunkOn inReady).trunks.get 7).rate = .r64000
      ∧ ((withTrunk 7 trunkOn inReady).trunks.get 7).gran = .du10 :=
  ⟨⟨rfl, rfl⟩, ⟨rfl, rfl⟩, by decide, fun r => by cases r <;> decide, fun g => by cases g <;> decide, by decide +kernel⟩

/-- Holds that are fixed, and a frame's first bit, its last and the mark after it on the line. -/
theorem witness_TakenFramesAreTheirBytes :
    (∀ e ∈ [(({ site := 3, address := 7, rawHold := 1, fixed := some { hold := 1, lateness := 0 } } : HoldEntry),
        ({ hold := 1, lateness := 0 } : FixedHold))], e.1.fixed = some e.2)
      ∧ inReady.port.mode = .align ∧ (inReady.trunks.get 1).tx = none
      ∧ 9 * 40000000 ≤ (6249 - 0 : BitVec 32).toNat * BitRate.r64000.bps
      ∧ (6249 - 0 : BitVec 32).toNat * BitRate.r64000.bps < (9 + 1) * 40000000
      ∧ 10 * 40000000 ≤ (6250 - 0 : BitVec 32).toNat * BitRate.r64000.bps
      ∧ List.length (List.replicate 7 (true, 0)) < 8 := by decide +kernel

/-- Trunk 1 with tag 52's frame in transmission, site 3 on it and site 7 elsewhere. -/
def sending52 (n : Nat) : State :=
  withSite 3 site3 (withSite 7 site7 (withSlot 0 { batch52 with phase := .dispatching dispatched52 n }
    (withTrunk 1 { trunkOn with tx := some { item := .batch 0, frame := [0xC5], startRaw := 0 } } inReady)))

theorem witness_TrunkSetDisables :
    (sending52 2).ready ∧ (1 : TrunkNo).val = (1 : Byte).toNat ∧ ((sending52 1).trunks.get 1).enable = true
      ∧ ((sending52 1).trunks.get 1).rate.bps = (64000 : BitVec 24).toNat
      ∧ ((sending52 1).trunks.get 1).gran.du = (10 : Byte).toNat
      ∧ ((sending52 1).sites.get 3).onTrunk 1 = true ∧ ((sending52 1).sites.get 3).phase.probed = true
      ∧ ((sending52 1).sites.get 7).onTrunk 1 = false ∧ ((sending52 1).sites.get 0).phase.probed = false
      ∧ (1 : SlotNo) ∉ ((sending52 1).trunks.get 1).droppedSlots ∧ ((sending52 1).trunks.get 1).droppedSlots.count 0 = 1
      ∧ (sending52 2).slots.get 0 = some { batch52 with phase := .dispatching dispatched52 2 }
      ∧ (sending52 1).slots.get 0 = some { batch52 with phase := .dispatching dispatched52 1 } :=
  ⟨⟨rfl, rfl⟩, by decide +kernel⟩

/-- Causes that agree with their sources: none of either. -/
theorem witness_TrunkSetDisables_causes : causesAgree inReady := by
  intro c _
  cases c <;> unfold State.holdsCause
  case zone => exact ⟨fun h => (by cases h), fun ⟨q, h, _⟩ => by cases h⟩
  all_goals decide +kernel

theorem witness_SiteAdmitWritesRecord :
    inReady.ready ∧ (withSite 3 site3 inReady).ready
      ∧ 64 ≤ (64 : Byte).toNat ∧ 8 ≤ (8 : Byte).toNat ∧ (0 : Byte).toNat = 0 ∧ 30 < (31 : Byte).toNat
      ∧ 100000 < ((-100001 : BitVec 24).toInt).natAbs
      ∧ (63 : SiteNo).val = (63 : Byte).toNat ∧ (3 : SiteNo).val = (3 : Byte).toNat ∧ (1 : TrunkNo).val = (1 : Byte).toNat
      ∧ 1 ≤ (7 : Byte).toNat ∧ (30 : Byte).toNat ≤ 30 ∧ ((-100000 : BitVec 24).toInt).natAbs ≤ 100000
      ∧ ((withSite 3 site3 inReady).sites.get 3).state ≠ .vacant ∧ ((withSite 3 site3 inReady).sites.get 63).state = .vacant
      ∧ ((withSite 3 site3 inReady).sites.get 3).isAt 1 7 = true
      ∧ (∀ j, j ≠ 63 → ((withSite 3 site3 inReady).sites.get j).state ≠ .vacant →
          ((withSite 3 site3 inReady).sites.get j).isAt 1 30 = false) :=
  ⟨⟨rfl, rfl⟩, ⟨rfl, rfl⟩, by decide +kernel⟩

/-- Mask bits 0, 1 and 2 name A, trim, and trunk with address; the others name nothing. -/
theorem witness_SiteAmendWritesNamedValues :
    (withSite 3 site3 (withSite 7 site7 inReady)).ready ∧ 64 ≤ (64 : Byte).toNat ∧ (0xF8 : Byte) &&& 7#8 = 0
      ∧ (7 : Byte) &&& 7#8 ≠ 0 ∧ (3 : SiteNo).val = (3 : Byte).toNat
      ∧ (inReady.sites.get 3).state = .vacant ∧ (site3In .retiring).state = .retiring
      ∧ site3.state ≠ .vacant ∧ site3.state ≠ .retiring ∧ (7 : Byte).getLsbD 1 = true ∧ (7 : Byte).getLsbD 2 = true
      ∧ 100000 < ((100001 : BitVec 24).toInt).natAbs ∧ 8 ≤ (8 : Byte).toNat ∧ 30 < (31 : Byte).toNat
      ∧ site3.link = some { trunk := 1, address := 7, asym := -120, trim := 150 }
      ∧ ((100000 : BitVec 24).toInt).natAbs ≤ 100000 ∧ (2 : TrunkNo).val = (2 : Byte).toNat ∧ 1 ≤ (5 : Byte).toNat
      ∧ (true = ((7 : Byte).getLsbD 2 && decide (((2 : TrunkNo), (5 : Byte).toNat) ≠ ((1 : TrunkNo), 7))))
      ∧ (false = ((3 : Byte).getLsbD 2 && decide (((2 : TrunkNo), (5 : Byte).toNat) ≠ ((1 : TrunkNo), 7))))
      ∧ ((withSite 3 site3 (withSite 7 site7 inReady)).sites.get 7).isAt 2 5 = true
      ∧ (∀ j, j ≠ 3 → ((withSite 3 site3 (withSite 7 site7 inReady)).sites.get j).state ≠ .vacant →
          ((withSite 3 site3 (withSite 7 site7 inReady)).sites.get j).isAt 2 6 = false) :=
  ⟨⟨rfl, rfl⟩, by decide +kernel⟩

theorem witness_SiteReadAndAcknowledge :
    (withSite 3 site3 inReady).ready ∧ 64 ≤ (64 : Byte).toNat ∧ (3 : SiteNo).val = (3 : Byte).toNat
      ∧ (inReady.sites.get 3).state = .vacant ∧ ((withSite 3 site3 inReady).sites.get 3).state ≠ .vacant
      ∧ (SiteRecord.admitted 1 7 0 0).est = none ∧ (SiteRecord.admitted 1 7 0 0).state ≠ .vacant ∧ (1 : Byte) ≠ 0
      ∧ ((withSite 3 site3 inReady).sites.get 3).est = some { d := 205130, reported := 205130 } :=
  ⟨⟨rfl, rfl⟩, by decide +kernel⟩

theorem witness_SiteSuspendAndResume :
    (withSite 3 site3 inReady).ready ∧ 64 ≤ (64 : Byte).toNat ∧ (63 : SiteNo).val = (63 : Byte).toNat
      ∧ (inReady.sites.get 63).state = .vacant ∧ (site3In .retiring).state = .retiring
      ∧ (site3In (.suspended true)).state = .suspended ∧ site3.phase.probed = true ∧ site3.state ≠ .vacant
      ∧ site3.state ≠ .suspended ∧ (site3In (.suspended true)).phase = .suspended true
      ∧ (site3In (.suspended false)).phase = .suspended false
      ∧ ((withSite 63 (site3In .retiring) inReady).sites.get 63).phase = .retiring :=
  ⟨⟨rfl, rfl⟩, by decide +kernel⟩

theorem witness_SiteRetireLeavesZones :
    (withZone 4 { body := some zone4, revision := 1 } (withSite 3 site3 inReady)).ready ∧ 64 ≤ (64 : Byte).toNat
      ∧ (3 : SiteNo).val = (3 : Byte).toNat ∧ (inReady.sites.get 3).state = .vacant
      ∧ (site3In .retiring).state = .retiring ∧ site3.state ≠ .vacant ∧ site3.state ≠ .retiring
      ∧ ((withZone 4 { body := some zone4, revision := 1 } (withSite 3 site3 inReady)).zones.get 4).body = some zone4
      ∧ (∃ m ∈ zone4.members, m.1 = 3) ∧ (inReady.zones.get 5).body = none :=
  ⟨⟨rfl, rfl⟩, by decide +kernel⟩

/-- Site 3 with a notice waiting, at the head of the list. -/
def notice3 : State :=
  { withSite 3 { site3 with notice := some { kind := .paFault, detail := 3, instant := 80050000 } } inReady with
    noticeOrder := [3, 7] }

theorem witness_NoticeTakeRemovesHead :
    notice3.ready ∧ inReady.noticeOrder = [] ∧ notice3.noticeOrder = 3 :: [7]
      ∧ (notice3.sites.get 3).notice = some { kind := .paFault, detail := 3, instant := 80050000 } :=
  ⟨⟨rfl, rfl⟩, by decide +kernel⟩

/-- The three members of zone 4 in service. -/
def members4 : State := withSite 3 site3 (withSite 7 site7 (withSite 12 site3 inReady))

theorem witness_ZoneDefineAndDelete :
    inReady.ready ∧ members4.ready ∧ 32 ≤ (32 : Byte).toNat ∧ (4 : ZoneNo).val = (4 : Byte).toNat
      ∧ zone4.lawful ∧ 2 ≤ zone4.members.length
      ∧ [(3, 334), (7, 512), (12, 90)] = zone4.members.map (fun m => (BitVec.ofNat 8 m.1.val, BitVec.ofNat 16 m.2))
      ∧ (∃ m ∈ zone4.members, (inReady.sites.get m.1).state = .vacant ∨ (inReady.sites.get m.1).state = .retiring)
      ∧ (∀ m ∈ zone4.members, (members4.sites.get m.1).state ≠ .vacant ∧ (members4.sites.get m.1).state ≠ .retiring)
      ∧ (inReady.zones.get 4).body = none
      ∧ ((withZone 4 { body := some zone4, revision := 1 } inReady).zones.get 4).body ≠ none :=
  ⟨⟨rfl, rfl⟩, ⟨rfl, rfl⟩, by decide, by decide, ⟨by decide, by decide, by decide, by decide, by decide⟩, by decide +kernel⟩

/-- A BAD_VALUE of ZONE.DEFINE for each of its tests: one member, seven, tolerance 0, site 64, a site twice, a yield member
outside. -/
theorem witness_ZoneDefine_refusals :
    ([(3, 0)] : List (Byte × BitVec 16)).length < 2 ∧ 6 < (List.replicate 7 ((3 : Byte), (0 : BitVec 16))).length
      ∧ (∃ m ∈ ([(3, 0), (64, 0)] : List (Byte × BitVec 16)), 64 ≤ m.1.toNat)
      ∧ ¬(([(3, 0), (3, 1)] : List (Byte × BitVec 16)).map Prod.fst).Nodup
      ∧ ((5 : Byte) ≠ 255 ∧ (5 : Byte) ∉ ([(3, 0), (7, 1)] : List (Byte × BitVec 16)).map Prod.fst) := by decide +kernel

/-- Site 3 launch-eligible on trunk 1, everything else VACANT, a stale mark waiting. -/
def stale3 : State :=
  { withSite 3 site3 (withSite 7 { site7 with phase := .retiring } (withTrunk 1 trunkOn inReady)) with
    solver := { Solver.cleared with stale := true } }

theorem witness_SolveStartTakesSnapshot :
    stale3.solver.stale = true ∧ stale3.solver.running = none
      ∧ (stale3.sites.get 3).link = some { trunk := 1, address := 7, asym := -120, trim := 150 }
      ∧ (stale3.sites.get 3).est = some { d := 205130, reported := 205130 } ∧ (stale3.trunks.get 1).enable = true
      ∧ (stale3.sites.get 3).phase.launches = true ∧ stale3.launchEligible 0 = false ∧ stale3.launchEligible 7 = false
      ∧ (stale3.sites.get 7).state ≠ .vacant ∧ inReady.solver.stale = false := by decide +kernel

/-- Site 7 RETIRING while the solve of chapter 7's snapshot runs, which still launches it. -/
def solving7 : State :=
  { withSite 5 (site3In .retiring) (withSite 7 { site7 with phase := .retiring } inReady) with
    solver := { stale := false, running := some { snapshot := snapshot7, start := 0 }, latest := none } }

/-- The same with the other two sites of the snapshot in the table. -/
def solvingAll : State := withSite 3 site3 (withSite 12 (site3In .retiring) solving7)

theorem witness_SolveCompletionPublishes_present :
    ∀ i e, snapshot7.sites.get i = .eligible e → (solvingAll.sites.get i).state ≠ .vacant := fun i e h hv => by
  have k : ∀ i, (match snapshot7.sites.get i with
      | .eligible _ => decide ((solvingAll.sites.get i).state ≠ .vacant)
      | .ineligible _ => true) = true := by decide +kernel
  have := k i
  rw [h] at this
  exact of_decide_eq_true this hv

theorem witness_SolveCompletionPublishes :
    inReady.solver.running = none ∧ solving7.solver.stale = false
      ∧ solving7.solver.running = some { snapshot := snapshot7, start := 0 }
      ∧ (solving7.sites.get 5).state = .retiring ∧ (snapshot7.plan 1).sites.get 5 = .excluded .vacant
      ∧ (∀ k, batchNames 5 (solving7.slots.get k) = false) ∧ (solving7.sites.get 3).state ≠ .retiring
      ∧ (snapshot7.plan 1).sites.get 7 = .launch { trunk := 2, address := 5, rawHold := 401195, short := false }
      ∧ (∃ k, batchNames 3 ((sending52 1).slots.get k) = true) := by decide +kernel

/-- The sites that a plan does not mute. -/
def unmuted (p : Plan) (i : SiteNo) : Bool :=
  match p.sites.get i with
  | .muted _ => false
  | .launch _ | .excluded _ => true

/-- The functions that these two statements speak of exist. -/
theorem witness_SolveCompletionPublishes_kept (p : Plan) (i : SiteNo) :
    unmuted p i = true ↔ ∀ q, p.sites.get i ≠ .muted q := by
  unfold unmuted; split <;> simp_all

/-- R138: the offsets 295,010 + 205,139 ± 17 and 401,200 + 98,775 ± 100 spread over 500,166 − 499,875 = 291 and meet that
tolerance, not one less; a single member gives no verdict. -/
theorem test_judgeZone :
    (snapshot7.firstPass { zone4 with members := [(3, 0), (7, 0)], yieldMember := none, tolerance := 291 }).1 = .satisfied
      ∧ (snapshot7.firstPass { zone4 with members := [(3, 0), (7, 0)], yieldMember := none, tolerance := 290 }) = (.violated, some 291)
      ∧ (snapshot7.firstPass { zone4 with members := [(3, 0)], yieldMember := none }) = (.indeterminate, none) := by
  decide +kernel

/-- A hold of 295,011 and, for a site beyond the horizon, one below zero. -/
theorem witness_HoldsAndLaunchOffsets :
    snapshot7.sites.get 3 = .eligible { trunk := 1, address := 7, d := 205139, trim := 150, u := 17 }
      ∧ snapshot7.grans.get 1 = .du10 ∧ (295011 : Int) = (snapshot7.horizon : Int) - (205139 : Nat) + 150
      ∧ 295010 = quantize .du10 295011 ∧ (0 : Int) ≤ 0 ∧ (-1 : Int) < 0 := by decide +kernel

theorem witness_MutesComeFromViolations :
    (Snapshot.plan { snapshot7 with calibrated := false } 31).provisional = true
      ∧ (∃ z ∈ (Snapshot.plan { snapshot7 with zones := [{ zone := 4, revision := 1, body := { zone4 with yieldMember := none } }] }
          31).zones, z.final = .violated) := by decide +kernel

/-- R35: the end of a batch vacates the RETIRING sites 5 and 7, though the running solve still holds site 7 eligible. -/
theorem test_batch_end_vacates :
    gives (exec (.settleDeadlineExpiry 0) (withSlot 0 { batch52 with phase := .inFlight dispatched52 0 } solving7))
      (fun t => decide ((t.sites.get 7).state = .vacant ∧ (t.sites.get 5).state = .vacant)) = true := by decide +kernel

/-- R36 and R130: site 7, vacated during the solve whose snapshot holds it eligible, is EXCLUDED in the plan published. -/
theorem test_published_plan_excludes_vacant :
    gives (exec .solveCompletion (withSite 7 SiteRecord.vacant solvingAll))
      (fun t => planExcludes t.solver.latest 7 && !planExcludes t.solver.latest 3) = true := by decide +kernel

/-- No slot is occupied. -/
theorem inReady_slots : ∀ i, inReady.slots.get i = none := by decide +kernel

/-- Tag 52 in every slot. -/
def fullSlots : State := { inReady with slots := Table.replicate 8 (some batch52) }

/-- The tests of BATCH.POST at their boundaries: leads of 2^30 − 1, 2^30, 2^31 − 1 and 2^31, an actual launch W − 1 and W from
another. -/
theorem witness_BatchPostAcceptsOrRefuses :
    inReady.ready ∧ (posted52 0 .pending).ready ∧ (∀ i, fullSlots.slots.get i ≠ none) ∧ (∃ i, inReady.slots.get i = none)
      ∧ (posted52 0 .pending).slots.get 0 = some batch52 ∧ batch52.tag = 52
      ∧ (∀ i b, inReady.slots.get i = some b → b.tag ≠ 52)
      ∧ ([] : List Byte).length = 0 ∧ 192 < (List.replicate 193 (0 : Byte)).length
      ∧ 1 ≤ (List.replicate 192 (0 : Byte)).length ∧ (List.replicate 192 (0 : Byte)).length ≤ 192
      ∧ (1073741824 ≤ 1073741824 ∧ 2147483647 < 2147483648) ∧ (1073741823 < 1073741824 ∧ 2147483648 ≤ 2147483648)
      ∧ (2147483648 ≤ 999999 ∨ 999999 < inReady.config.horizon) ∧ ¬(2147483648 ≤ 1000000 ∨ 1000000 < inReady.config.horizon)
      ∧ isDone (some batch52) = false
      ∧ min ((69711249 : Instant) - batch52.actual).toNat (batch52.actual - (69711249 : Instant)).toNat
          < inReady.config.spacing
      ∧ inReady.config.spacing ≤ min ((69711250 : Instant) - batch52.actual).toNat
          (batch52.actual - (69711250 : Instant)).toNat
      ∧ (69611250 : Instant) - BitVec.ofNat 32 1000000 ≠ inReady.time.now
      ∧ (1000000 : Instant) - BitVec.ofNat 32 1000000 = inReady.time.now :=
  ⟨⟨rfl, rfl⟩, ⟨rfl, rfl⟩, by decide +kernel, ⟨0, by decide +kernel⟩, by decide +kernel, rfl,
    (fun i b h => by rw [inReady_slots i] at h; cases h), by decide +kernel⟩

theorem witness_WithdrawAndReportFreeSlots :
    (posted52 0 .pending).ready ∧ (∀ i b, inReady.slots.get i = some b → b.tag ≠ 52)
      ∧ (posted52 0 .pending).slots.get 0 = some batch52
      ∧ (∀ j c, (posted52 0 .pending).slots.get j = some c → c.tag = 52 → j = 0)
      ∧ BatchPhase.done dispatched52 ≠ .pending ∧ batch52.phase = .pending
      ∧ (∀ i, isDone ((posted52 0 .pending).slots.get i) = false)
      ∧ (∃ i, isDone ((posted52 0 (.done dispatched52)).slots.get i) = true) := by
  refine ⟨⟨rfl, rfl⟩, fun i b h => ?_, by decide +kernel, ?_, by decide, rfl, by decide +kernel, by decide +kernel⟩
  · rw [inReady_slots i] at h
    cases h
  · have h : ∀ j : SlotNo, j ≠ 0 → (posted52 0 .pending).slots.get j = none := by decide +kernel
    intro j c hc _
    by_contra hj
    rw [h j hj] at hc
    cases hc

/-- Tag 52 due, with the plan of chapter 7 and all its trunks disabled. -/
def due52 : State :=
  { posted52 69111250 .pending with solver := { Solver.cleared with latest := some (snapshot7.plan 31) } }

theorem witness_DispatchDeadlineHandsOnFrames :
    due52.slots.get 0 = some batch52 ∧ batch52.phase = .pending ∧ batch52.dispatch = due52.time.now
      ∧ (∀ j, j ≠ 0 → due52.slots.get j = none) ∧ due52.solver.latest = some (snapshot7.plan 31)
      ∧ (posted52 69111250 .pending).solver.latest = none ∧ batch52.dispatch ≠ (posted52 0 .pending).time.now
      ∧ (snapshot7.plan 31).sites.get 3 = .launch { trunk := 1, address := 7, rawHold := 295011, short := false }
      ∧ (due52.trunks.get 1).enable = false ∧ ((withTrunk 1 trunkOn due52).trunks.get 1).enable = true := by
  decide +kernel

theorem witness_SettleDeadlineCompletesReport :
    (posted52 69811250 (.inFlight dispatched52 69811250)).slots.get 0
        = some { batch52 with phase := .inFlight dispatched52 69811250 }
      ∧ (69811250 : Instant) = (posted52 69811250 (.inFlight dispatched52 69811250)).time.now
      ∧ (69811250 : Instant) ≠ (posted52 69811249 (.inFlight dispatched52 69811250)).time.now
      ∧ planExcludes none 3 = true ∧ (site3In .retiring).state = .retiring := by decide +kernel

theorem witness_SentHoldsAreNearestMultiples :
    fixedHold .du100 16100000 = { hold := 16100000, lateness := 0 } ∧ (16100000 : Int) ≤ 16100000 ∧ (0 : Int) ≤ 16100000
      ∧ fixedHold .du100 (-1) = { hold := 0, lateness := 1 } ∧ (-1 : Int) < 0 := by decide +kernel

/-- Sites 3 and 9 on trunk 1, the slot timer at its deadline. -/
def slotDue (last : Option SiteNo) : State :=
  withSite 3 site3 (withSite 9 site3 (withTrunk 1 { trunkOn with timer := .running 0, lastProbed := last } inReady))

theorem witness_SlotDeadlineChoosesInTurn :
    ((slotDue none).trunks.get 1).timer = .running (slotDue none).time.now
      ∧ ((atNow 1 (slotDue none)).trunks.get 1).timer ≠ .running (atNow 1 (slotDue none)).time.now
      ∧ (∀ i, (withTrunk 1 { trunkOn with timer := .running 0 } inReady).eligibleOn 1 i = false)
      ∧ (∃ i, (slotDue none).eligibleOn 1 i = true)
      ∧ (slotDue (some 3)).nextInTurn 1 9 ∧ (slotDue (some 9)).nextInTurn 1 3 ∧ (slotDue none).nextInTurn 1 3 := by
  have h0 : ∀ i, (slotDue none).eligibleOn 1 i = decide (i = 3 ∨ i = 9) := by decide +kernel
  have h3 : ∀ i, (slotDue (some 3)).eligibleOn 1 i = decide (i = 3 ∨ i = 9) := by decide +kernel
  have h9 : ∀ i, (slotDue (some 9)).eligibleOn 1 i = decide (i = 3 ∨ i = 9) := by decide +kernel
  refine ⟨by decide +kernel, by decide +kernel, by decide +kernel, ⟨3, by decide +kernel⟩, ?_, ?_, ?_⟩
  · exact ⟨by rw [h3]; decide, .inl ⟨by decide +kernel, fun j hj hl => by
      rw [h3, decide_eq_true_eq] at hj
      have := hl 3 (by decide +kernel)
      rcases hj with rfl | rfl <;> [exact absurd this (by decide); exact le_refl _]⟩⟩
  · exact ⟨by rw [h9]; decide, .inr ⟨⟨9, by decide +kernel, fun j hj => by
      rw [h9, decide_eq_true_eq] at hj; rcases hj with rfl | rfl <;> decide⟩, fun j hj => by
      rw [h9, decide_eq_true_eq] at hj; rcases hj with rfl | rfl <;> decide⟩⟩
  · exact ⟨by rw [h0]; decide, .inl ⟨by decide +kernel, fun j hj _ => by
      rw [h0, decide_eq_true_eq] at hj; rcases hj with rfl | rfl <;> decide⟩⟩

/-- Trunk 1 with a probe request for a site waiting, site 3 on it and site 9 suspended. -/
def requested (i : SiteNo) : State :=
  withSite 3 site3 (withSite 9 (site3In (.suspended false)) (withTrunk 1 { trunkOn with timer := .waiting i } inReady))

/-- A bench responder with 16 echoes waiting. -/
def fullBench : BenchResponder := { undelivered := List.replicate 16 { address := 7, seq := 0, due := 0 }, delivering := none }

theorem witness_ProbeFrameStartOpensProbe :
    (∀ r, trunkOn.timer ≠ .waiting r) ∧ ((sending52 1).trunks.get 1).tx ≠ none
      ∧ Trunk.batchQueue { trunkOn with batchQueue := [0] } ≠ []
      ∧ Trunk.replyQueue { trunkOn with replyQueue := [{ address := 7, seq := 0, decision := .taken }] } ≠ []
      ∧ ((requested 3).trunks.get 1).timer = .waiting 3 ∧ ((requested 3).trunks.get 1).tx = none
      ∧ ((requested 3).trunks.get 1).batchQueue = [] ∧ ((requested 3).trunks.get 1).replyQueue = []
      ∧ (requested 3).eligibleOn 1 3 = true ∧ (requested 9).eligibleOn 1 9 = false ∧ (requested 9).nextInTurn 1 3
      ∧ ((requested 9).sites.get 3).link = site3.link ∧ (requested 3).port.mode = .align
      ∧ 16 ≤ fullBench.undelivered.length ∧ (inBench (requested 3)).port.mode = .bench
      ∧ ((requested 3).trunks.get 1).bench.undelivered.length < 16
      ∧ (∀ i, (withTrunk 1 { trunkOn with timer := .waiting 3 } inReady).eligibleOn 1 i = false) := by
  have h : ∀ i, (requested 9).eligibleOn 1 i = decide (i = 3) := by decide +kernel
  refine ⟨fun r => by simp [trunkOn], by decide +kernel, by decide, by decide, by decide +kernel, by decide +kernel,
    by decide +kernel, by decide +kernel, by decide +kernel, by decide +kernel, ?_, by decide +kernel, by decide +kernel,
    by decide +kernel, by decide +kernel, by decide +kernel, by decide +kernel⟩
  refine ⟨by rw [h]; decide, .inl ⟨by decide +kernel, fun j hj _ => ?_⟩⟩
  rw [h, decide_eq_true_eq] at hj
  exact le_of_eq hj.symm

/-- Trunk 1 collecting a frame with its probe to site 3 outstanding. -/
def awaiting (p : SitePhase) : State :=
  withSite 3 (site3In p) (withTrunk 1 { trunkOn with framer := .collecting 70412520, outstanding := some probeOf3 } inReady)

/-- The same in BENCH mode, the responder's own echo on its way for its 62,500 ticks. -/
def benchAwaiting (ticks : BitVec 32) : State :=
  { inBench (withTrunk 1 { trunkOn with
      framer := .collecting 70412520, outstanding := some probeOf3
      bench :=
        { undelivered := []
          delivering := some { echo := { address := 7, seq := 86, due := 0 }, instant := 70412520, startRaw := 0 } } }
      (awaiting (.aligned []))) with time := { inReady.time with rawCount := ticks } }

/-- R92: one du before the timeout deadline TRUNK.GET shows the probe with lead 1; in its du it shows none. -/
theorem test_trunkGet_at_deadline :
    (((atNow 70499999 (awaiting (.aligned []))).trunkData 1).drop 16).take 11
        = [3, 7, 86] ++ bytesOf 4 70000000 ++ [0, 0, 0, 1]
      ∧ (((atNow 70500000 (awaiting (.aligned []))).trunkData 1).drop 16).take 11 = List.replicate 11 0 := by decide +kernel

theorem witness_EchoTakenReachesTracker :
    frameBytes? (frameBits (echoBytes 7 86 2000)) = some (echoBytes 7 86 2000)
      ∧ ((awaiting (.aligned [])).trunks.get 1).framer = .collecting 70412520 ∧ (awaiting (.aligned [])).port.mode = .align
      ∧ ((benchAwaiting 62500).trunks.get 1).bench.delivering.map BenchDelivery.echo
          = some { address := 7, seq := 86, due := 0 }
      ∧ lineTimePassed .r64000 10 0 (benchAwaiting 62500).time.rawCount = true
      ∧ ((awaiting (.aligned [])).trunks.get 1).outstanding = some probeOf3
      ∧ probeOf3.address = (7 : Byte).toNat ∧ probeOf3.seq = 86 ∧ probeOf3.address ≠ (12 : Byte).toNat ∧ probeOf3.seq ≠ 87
      ∧ (awaiting (.suspended false)).stillThere probeOf3 = false ∧ (awaiting (.aligned [])).stillThere probeOf3 = true
      ∧ ((awaiting (.aligned [])).sites.get probeOf3.site).link = site3.link
      ∧ sample? ((70412520 : Instant) - probeOf3.instant).toNat (2000 : BitVec 16).toNat (-120) = some 205200
      ∧ sample? ((70000000 : Instant) - probeOf3.instant).toNat (2000 : BitVec 16).toNat (-120) = none := by
  decide +kernel

theorem witness_ProbeTimeoutCountsMiss :
    ((awaiting (.aligned [])).trunks.get 1).outstanding = some probeOf3
      ∧ probeOf3.deadline ≠ (awaiting (.aligned [])).time.now
      ∧ probeOf3.deadline = (atNow 70500000 (awaiting (.aligned []))).time.now
      ∧ (atNow 70500000 (awaiting (.suspended false))).stillThere probeOf3 = false
      ∧ (atNow 70500000 (awaiting (.aligned []))).stillThere probeOf3 = true := by decide +kernel

/-- R88: a SITE.AMEND writing A leaves the site there, so the timeout that follows it in the same du counts the miss. -/
theorem test_timeout_after_amend :
    gives (exec (.siteAmend 3 1 50 0 0 0) (atNow 70500000 (awaiting (.aligned [])))) (fun t =>
      decide ((t.sites.get 3).link.map Link.asym = some 50)
        && gives (exec (.probeTimeoutExpiry 1) t) (fun u =>
          decide ((u.sites.get 3).m = 1 ∧ (u.trunks.get 1).outstanding = none))) = true := by decide +kernel

/-- R25: a SITE.AMEND that moves the site leaves a timeout that counts no miss. -/
theorem test_timeout_after_move :
    gives (exec (.siteAmend 3 4 0 0 1 9) (atNow 70500000 (awaiting (.aligned [])))) (fun t =>
      decide ((t.sites.get 3).state = .probing)
        && gives (exec (.probeTimeoutExpiry 1) t) (fun u =>
          decide ((u.sites.get 3).m = 0 ∧ (u.trunks.get 1).outstanding = none))) = true := by decide +kernel

/-- Tag 52's frame waiting on trunk 1. -/
def waiting52 : State :=
  withSlot 0 { batch52 with phase := .dispatching dispatched52 1 } (withTrunk 1 { trunkOn with batchQueue := [0] } inReady)

theorem witness_BatchFrameStartFixesHolds :
    ((sending52 1).trunks.get 1).tx ≠ none ∧ (inReady.trunks.get 1).batchQueue = []
      ∧ (waiting52.trunks.get 1).tx = none ∧ (waiting52.trunks.get 1).batchQueue = 0 :: []
      ∧ waiting52.slots.get 0 = some { batch52 with phase := .dispatching dispatched52 1 }
      ∧ (dispatched52.holdLists.map HoldList.trunk).Nodup ∧ (∃ l ∈ dispatched52.holdLists, l.trunk = 1) := by
  decide +kernel

/-- A frame of one byte has ended at 6,250 ticks and not before; tag 52's settle deadline is 69,811,250. -/
theorem witness_FramesStartAndEnd :
    ((sending52 1).trunks.get 1).tx = some { item := .batch 0, frame := [0xC5], startRaw := 0 }
      ∧ (inReady.trunks.get 1).replyQueue = [] ∧ (inReady.trunks.get 1).tx = none
      ∧ Trunk.replyQueue { trunkOn with replyQueue := [{ address := 7, seq := 0, decision := .taken }] }
          = { address := 7, seq := 0, decision := .taken } :: []
      ∧ (waiting52.trunks.get 1).batchQueue ≠ []
      ∧ ((6249 : BitVec 32) - 0).toNat < [(0xC5 : Byte)].length * 10 * 40000000 / BitRate.r64000.bps
      ∧ [(0xC5 : Byte)].length * 10 * 40000000 / BitRate.r64000.bps ≤ ((6250 : BitVec 32) - 0).toNat
      ∧ (∀ i, TxItem.probe 3 ≠ .batch i)
      ∧ (sending52 2).slots.get 0 = some { batch52 with phase := .dispatching dispatched52 2 }
      ∧ (sending52 1).slots.get 0 = some { batch52 with phase := .dispatching dispatched52 1 }
      ∧ isLater (batch52.actual + BitVec.ofNat 32 200000) (atNow 69811249 (sending52 1)).time.now = true
      ∧ isLater (batch52.actual + BitVec.ofNat 32 200000) (atNow 69811250 (sending52 1)).time.now = false := by
  decide +kernel

/-- At 64,000 bit/s two byte times are 12,500 ticks: a rest of that length is no gap, one tick more is. -/
theorem witness_FramerFindsAndDiscards :
    (withTrunk 1 trunkOn inReady).port.mode = .align ∧ ((withTrunk 1 trunkOn inReady).trunks.get 1).framer = .hunting
      ∧ (lineBytes 0 (heard [(0xC5, 18125), (0xC5, 11875), (0x3A, 5625)]).dropLast).map (fun b => (b.value, b.start))
          = [(0xC5, 18125)] ++ [(0xC5, 11875), (0x3A, 5625)]
      ∧ openFrameBytes? (frameBits [7]).dropLast = some [7] ∧ openFrameBytes? (frameBits [5, 2, 7]).dropLast = some [5, 2, 7]
      ∧ openFrameBytes? (frameBits [7]) = none
      ∧ ([0xC5, 0xC5, 0x3A] : List Byte) = [0xC5] ++ [0xC5, 0x3A] ∧ hunt false [0xC5, 0xC5, 0x3A] = true
      ∧ (TimeBase.nowAt 12500 { inReady.time with now := 3125, sinceF := 12500 }) = some 0
      ∧ 19 * 40000000 ≤ 11875 * BitRate.r64000.bps ∧ 11874 * BitRate.r64000.bps < 19 * 40000000
      ∧ 25000 * BitRate.r64000.bps ≤ 40 * 40000000 ∧ 40 * 40000000 < 25001 * BitRate.r64000.bps
      ∧ inReady.time.nowAt 12500 = none ∧ (inBench inReady).port.mode = .bench
      ∧ (inReady.trunks.get 1).framer ≠ .hunting ∧ hunt false [0xC5, 0x00, 0x3A] = false
      ∧ hunt false [0xC5, 0x3A, 0xC5, 0x3A] = false
      ∧ ((awaiting (.aligned [])).trunks.get 1).framer = .collecting 70412520
      ∧ 20 * 40000000 < 12501 * BitRate.r64000.bps ∧ 12500 * BitRate.r64000.bps ≤ 20 * 40000000 := by decide +kernel

/-- A bad length, a bad type, a stop bit at space and a check that differs; an ECHO begun well is no discard. -/
theorem witness_FramerFindsAndDiscards_discards :
    framerDiscards [7] false ∧ framerDiscards [5, 3] false ∧ framerDiscards [6, 2] false ∧ framerDiscards [5, 2, 7] true
      ∧ framerDiscards [5, 2, 0, 0, 0, 0, 0, 0] false ∧ ¬framerDiscards [5, 2, 7] false := by
  refine ⟨⟨[], 7, rfl, .inl rfl, .inr (.inl (by decide))⟩, ⟨[5], 3, rfl, .inr (.inl rfl), .inr (.inr (.inl (by decide)))⟩,
    ⟨[6], 2, rfl, .inr (.inr (.inl rfl)), .inr (.inr (.inr (.inl (by decide))))⟩,
    ⟨[5, 2], 7, rfl, .inr (.inr (.inr (.inl ⟨[], rfl, by decide⟩))), .inl rfl⟩,
    ⟨[5, 2, 0, 0, 0, 0, 0], 0, rfl, .inr (.inr (.inr (.inl ⟨[0, 0, 0, 0, 0], rfl, by decide⟩))),
      .inr (.inr (.inr (.inr ⟨[5, 2, 0, 0, 0, 0], 0, rfl, .inl ⟨[0, 0, 0, 0], rfl, rfl⟩, by decide +kernel⟩)))⟩, ?_⟩
  rintro ⟨before, last, h, -, hd⟩
  have hb : before = [5, 2] := by simpa using (congrArg List.dropLast h).symm
  subst hb
  rcases hd with hd | ⟨hd, -⟩ | ⟨hd, -⟩ | ⟨hd, -⟩ | ⟨body, c, hb, hr, -⟩
  · exact absurd hd (by decide)
  · exact absurd hd (by decide)
  · exact absurd hd (by decide)
  · exact absurd hd (by decide)
  · have := congrArg List.length hb
    rcases hr with ⟨rest, rfl, hl⟩ | ⟨rest, rfl, hl⟩ <;> simp [hl] at this

/-- An echo due at 1,300,000: still ahead one du earlier, due then. -/
def benchEcho : BenchEcho := { address := 1, seq := 0, due := 1300000 }

/-- Trunk 1 in BENCH mode with that echo waiting. -/
def benchWaiting (now : Instant) : State :=
  atNow now (inBench (withTrunk 1 { trunkOn with bench := { undelivered := [benchEcho], delivering := none } } inReady))

theorem witness_BenchEchoIsDeliveredWhenDue :
    (benchWaiting 0).port.mode = .bench ∧ ((benchWaiting 0).trunks.get 1).enable = true
      ∧ ((benchWaiting 0).trunks.get 1).bench.delivering = none
      ∧ ((benchWaiting 0).trunks.get 1).bench.undelivered = benchEcho :: []
      ∧ isLater benchEcho.due (benchWaiting 1299999).time.now = true
      ∧ isLater benchEcho.due (benchWaiting 1300000).time.now = false ∧ inReady.port.mode = .align
      ∧ (inReady.trunks.get 1).enable = false ∧ ((benchAwaiting 0).trunks.get 1).bench.delivering ≠ none
      ∧ trunkOn.bench.undelivered = [] := by decide +kernel

/-- A reply waiting to be sent. -/
def oneReply : NoticeReply := { address := 7, seq := 0, decision := .taken }

theorem witness_NoticeArrivalIsJudged :
    frameBytes? (frameBits (noticeBytes 7 4 0 9)) = some (noticeBytes 7 4 0 9)
      ∧ ((awaiting (.aligned [])).trunks.get 1).framer = .collecting 70412520 ∧ (awaiting (.aligned [])).port.mode = .align
      ∧ 8 ≤ (List.replicate 8 oneReply).length ∧ (List.replicate 7 oneReply).length < 8 ∧ noticeKind? 6 = none
      ∧ (∀ i, ((awaiting .retiring).sites.get i).isAt 1 (7 : Byte).toNat = true →
          ((awaiting .retiring).sites.get i).state.takesNotices = false)
      ∧ noticeKind? 5 = some .serviceOn ∧ ((awaiting (.suspended true)).sites.get 3).isAt 1 (7 : Byte).toNat = true
      ∧ ((awaiting (.suspended true)).sites.get 3).state.takesNotices = true
      ∧ (∀ j, j ≠ 3 → ((awaiting (.suspended true)).sites.get j).state ≠ .vacant →
          ((awaiting (.suspended true)).sites.get j).isAt 1 (7 : Byte).toNat = false)
      ∧ (notice3.sites.get 3).notice ≠ none ∧ ((awaiting (.suspended true)).sites.get 3).notice = none := by decide +kernel

/-- x of −1, 0, 33,554,430 and 33,554,431 with A −120. -/
theorem witness_SamplesAreHalfTheLoop :
    ((withSite 3 site3 inReady).sites.get 3).link = some { trunk := 1, address := 7, asym := -120, trim := 150 }
      ∧ (-1 : Int) = ((119 : Nat) : Int) - (0 : Nat) + (-120) ∧ (0 : Int) = ((120 : Nat) : Int) - (0 : Nat) + (-120)
      ∧ (33554430 : Int) = ((33554550 : Nat) : Int) - (0 : Nat) + (-120)
      ∧ (33554431 : Int) = ((33554551 : Nat) : Int) - (0 : Nat) + (-120) ∧ (33554430 : Int) < 33554431
      ∧ (33554431 : Int) ≤ 33554431 := by decide +kernel

/-- A sample exactly J away is accepted; δ of 4 is a half. -/
theorem witness_AcceptedSampleMovesEstimate :
    site3.phase = .aligned [] ∧ (site3In (.holdover [206300] 3)).phase = .holdover [206300] 3
      ∧ site3.est = some { d := 205130, reported := 205130 }
      ∧ (400 : Int) = ((205530 : Nat) : Int) - (205130 : Nat) ∧ (400 : Int).natAbs ≤ params3.jumpLimit
      ∧ (4 : Int) = ((205134 : Nat) : Int) - (205130 : Nat) ∧ (4 : Int).natAbs % 8 = 4
      ∧ 205180 = stepDelay 205130 205530 ∧ 58 = stepDeviation 10 205130 205530 := by decide +kernel

/-- Four samples that span J complete; one du more does not. -/
theorem witness_AcquisitionCompletes :
    (site3In (.probing [1000, 1000, 1000])).phase = .probing [1000, 1000, 1000]
      ∧ (site3In (.suspect [])).phase = .suspect [] ∧ [1000, 1000, 1000].length ≤ 4
      ∧ [1000, 1000, 1000, 1400] = ([1000, 1000, 1000] ++ [1400]).drop (([1000, 1000, 1000] ++ [1400]).length - 4)
      ∧ [1000, 1000, 1000, 1400].length = 4
      ∧ (∀ a ∈ [1000, 1000, 1000, 1400], ∀ b ∈ [1000, 1000, 1000, 1400], b ≤ a + params3.jumpLimit)
      ∧ (∃ a ∈ [1000, 1000, 1000, 1401], ∃ b ∈ [1000, 1000, 1000, 1401], a + params3.jumpLimit < b)
      ∧ [1000].length < 4 := by decide +kernel

/-- Three candidates that span J re-seat; one du more does not. A sample J + 1 away is a candidate. -/
theorem witness_JumpCandidatesReseat :
    (site3In (.holdover [206300, 206290] 3)).phase = .holdover [206300, 206290] 3 ∧ site3.phase = .aligned []
      ∧ [206300, 206290].length ≤ 3 ∧ params3.jumpLimit < (((205531 : Nat) : Int) - (205130 : Nat)).natAbs
      ∧ (∀ u ∈ site3.u params3.growth, u ≤ params3.ceiling)
      ∧ [206300, 206290, 206690] = ([206300, 206290] ++ [206690]).drop (([206300, 206290] ++ [206690]).length - 3)
      ∧ (∀ a ∈ [206300, 206290, 206690], ∀ b ∈ [206300, 206290, 206690], b ≤ a + params3.jumpLimit)
      ∧ (∃ a ∈ [206300, 206290, 206691], ∃ b ∈ [206300, 206290, 206691], a + params3.jumpLimit < b)
      ∧ [206300].length < 3 := by decide +kernel

/-- 166,666 ticks are inside the past the model keeps at 9,600 bit/s, one more is not inside four byte times. -/
theorem test_pastTicks : 166666 * BitRate.r9600.bps ≤ 4 * 10 * 40000000 ∧ 4 * 10 * 40000000 < 166667 * BitRate.r9600.bps := by
  decide +kernel

theorem witness_MissesLeadToHoldover :
    (∀ u ∈ site3.u params3.growth, u ≤ params3.ceiling) ∧ (∀ u ∈ site7.u params3.growth, u ≤ params3.ceiling)
      ∧ (site3In (.probing [])).state = .probing ∧ (site3In (.suspect [])).state = .suspect ∧ site3.phase = .aligned []
      ∧ SiteRecord.m { site3 with m := 1 } ≤ 1 ∧ SiteRecord.m { site3 with m := 2 } = 2 ∧ site7.phase = .holdover [] 5
      ∧ 65535 = min 65535 (65535 + 1) := by decide +kernel

theorem witness_EveryStepKeepsClockAndParameters :
    inReady.time.lawful ∧ inReady.config.lawful
      ∧ ∃ t, step { inReady with pending := [.configSetProbePeriod 300000] } = .next t :=
  ⟨⟨by decide, by decide, by decide, fun _ => rfl, fun m h => by cases h⟩, by unfold Params.lawful; decide +kernel, _, rfl⟩

/-- Site 3 in service and nothing else. -/
def only3 : State := withSite 3 site3 inReady

theorem only3_vacant : ∀ j, j ≠ 3 → only3.sites.get j = SiteRecord.vacant := by decide +kernel

theorem witness_EveryStepKeepsSiteRecordsLawful :
    sitesInRange only3 ∧ uncertaintyBounded only3 ∧ driftLaw only3 ∧ placesDistinct only3 ∧ vacantLaw only3
      ∧ ∃ t, step { only3 with pending := [.siteSuspend 3] } = .next t := by
  have h3 : only3.sites.get 3 = site3 := by decide +kernel
  refine ⟨fun i => ?_, fun i => ?_, fun i => ?_, fun i j k a hi hj _ _ => ?_, fun i _ => ⟨rfl, fun k => by rw [show only3.slots.get k = none from inReady_slots k]; rfl⟩, _, rfl⟩
  · by_cases e : i = 3
    · rw [e, h3]
      exact ⟨⟨⟨by decide, by simp⟩, by decide⟩, by decide, by decide, by decide, by unfold Link.inRange; decide,
        (fun h => by cases h), fun _ => rfl, fun _ => rfl⟩
    · rw [only3_vacant i e]
      exact ⟨trivial, by decide, by decide, by decide, by simp [SiteRecord.vacant], fun _ => rfl, fun h => absurd rfl h,
        fun h => by rcases h with h | h | h <;> cases h⟩
  · by_cases e : i = 3
    · rw [e, h3]
      decide +kernel
    · rw [only3_vacant i e]
      simp [SiteRecord.vacant, SiteRecord.u]
  · by_cases e : i = 3
    · rw [e, h3]
      simp [site3]
    · rw [only3_vacant i e]
      simp [SiteRecord.vacant]
  · by_cases e : i = 3
    · by_cases f : j = 3
      · rw [e, f]
      · exact absurd (by rw [only3_vacant j f]; rfl) hj
    · exact absurd (by rw [only3_vacant i e]; rfl) hi

theorem witness_EveryStepKeepsTheNoticeOrder :
    noticeLaw { notice3 with noticeOrder := [3] }
      ∧ ∃ t, step { notice3 with noticeOrder := [3], pending := [.noticeTake] } = .next t :=
  ⟨⟨by decide, by decide +kernel, by decide +kernel⟩, _, rfl⟩

/-- Zone 4 defined over its three members, and tag 52 posted. -/
def zoneAndBatch : State := withSlot 0 batch52 (withZone 4 { body := some zone4, revision := 1 } members4)

theorem witness_EveryStepKeepsZonesAndSlotsLawful :
    zoneLaw zoneAndBatch ∧ slotLaw zoneAndBatch ∧ ∃ t, step { zoneAndBatch with pending := [.siteRetire 12] } = .next t := by
  have hz : ∀ z, z ≠ 4 → (zoneAndBatch.zones.get z).body = none := by decide +kernel
  have h4 : (zoneAndBatch.zones.get 4).body = some zone4 := by decide +kernel
  have hs : ∀ i, i ≠ 0 → zoneAndBatch.slots.get i = none := by decide +kernel
  have h0 : zoneAndBatch.slots.get 0 = some batch52 := by decide +kernel
  refine ⟨fun z b hb => ?_, fun i b hb => ?_, _, rfl⟩
  · by_cases e : z = 4
    · rw [e, h4] at hb
      cases hb
      exact ⟨⟨by decide, by decide, by decide, by decide, by decide⟩, by decide +kernel⟩
    · rw [hz z e] at hb
      cases hb
  · by_cases e : i = 0
    · rw [e, h0] at hb
      cases hb
      refine ⟨by decide +kernel, fun j c hc => ?_⟩
      by_cases f : j = 0
      · exact ⟨fun _ => by rw [e, f], fun _ => by rw [e, f]⟩
      · rw [hs j f] at hc
        cases hc
    · rw [hs i e] at hb
      cases hb

theorem witness_EveryStepKeepsConditionsAtTheirSources :
    quietOutsideReady inReady ∧ causesAgree inReady
      ∧ ∃ t, step { inReady with pending := [.siteAdmit 3 1 7 0 0] } = .next t := by
  exact ⟨⟨(fun h => by cases h), fun h => absurd rfl h⟩, witness_TrunkSetDisables_causes, _, rfl⟩

theorem witness_ChangedPlanInputsAreMarkedStale :
    resets (.configSetHorizon 500000) = false ∧ Instr.configSetHorizon 500000 ≠ .solveStart
      ∧ ∃ t, exec (.configSetHorizon 500000) inReady = .next t ∧ planInputs t ≠ planInputs inReady :=
  ⟨rfl, by decide, _, rfl, by decide +kernel⟩

end Sys2Proof.Tests
end

section
/-! Proofs of the family of the time base and calibration: the end of a command frame in READY, and CAL.START. -/

namespace Sys2Proof.Machine

/-! ### A command frame that ends in READY -/

/-- READY takes every command (R180). -/
@[simp] theorem notTaken_ready (k : CommandClass) : notTaken k .ready = none := by cases k <;> rfl

theorem State.command_of_ready (k : CommandClass) (block : State → Answer × State) {s : State} (hs : s.ready) :
    s.command k block = (block s).2.respond (block s).1 := by
  obtain ⟨hopen, hop⟩ := hs
  simp [State.command, hopen, hop]

section
variable {c : Instr} {k : CommandClass} {block : State → Answer × State} {s u : State}

/-- In READY a command is answered with what its block answers, and changes beside the port what its block changes. -/
theorem answers_of_block {a : Answer} {l : List Part} (hc : exec c s = .next (s.command k block)) (hs : s.ready)
    (hb : block s = (a, u)) (hu : onlyChanges l s u) (hport : u.port = s.port) (hnow : u.time.now = s.time.now) :
    answers c a l s (u.respond a) := by
  refine ⟨⟨?_, ?_⟩, ?_⟩
  · rw [hc, State.command_of_ready k block hs, hb]
  · exact onlyChanges_trans (onlyChanges_mono hu (List.subset_cons_self _ _))
      (onlyChanges_mono (State.respond_onlyChanges a u) (by simp))
  · rw [answered, State.respond_port, hport, hnow]

/-- In READY a refusal by the command's block declines the command. -/
theorem declined_of_refuse {code : ResultCode} (hc : exec c s = .next (s.command k block)) (hs : s.ready)
    (hb : block s = refuse code s) : declined c code s :=
  ⟨_, answers_of_block hc hs hb (onlyChanges_refl [] s) rfl rfl⟩

end

/-! ### CAL.START -/

theorem exec_calStart (e : BitVec 24) (s : State) :
    exec (.calStart e) s = .next (s.command .readyOnly (calStartBlock e)) := rfl

/-- Outside MEASURING the state that a measurement records to return to is the calibration state itself (R8). -/
theorem CalState.answer_of_not_measuring {x : CalState} (h : ∀ m, x ≠ .measuring m) :
    x.answer = decide (x = .calibrated) := by
  cases x with
  | measuring m => exact absurd rfl (h m)
  | uncalibrated => rfl
  | calibrated => rfl

/-- The state in which CAL.START has begun a measurement with this E (R8), the plan marked stale (R7). -/
def State.startMeasurement (e : Nat) (s : State) : State :=
  State.markStale
    { s with time :=
      { s.time with
        cal := .measuring
          { returnCalibrated := decide (s.time.cal = .calibrated), e := e, deadline := after s.time.now (3 * e)
            phase := if s.time.calPin then .awaitingLow else .awaitingRise } } }

theorem State.startMeasurement_onlyChanges (e : Nat) (s : State) :
    onlyChanges [.time, .solver] s (s.startMeasurement e) := by
  refine onlyChanges_intro rfl fun p h => ?_
  cases p
  case time => exact absurd h (by decide)
  case solver => exact absurd h (by decide)
  all_goals rfl

theorem State.startMeasurement_markedStale (e : Nat) (s : State) : markedStale s (s.startMeasurement e) := rfl

section
variable {e : BitVec 24} {s : State}

theorem calStartBlock_of_measuring {m : Measurement} (h : s.time.cal = .measuring m) :
    calStartBlock e s = refuse .busy s := by
  simp only [calStartBlock, h]

theorem calStartBlock_of_not_measuring (h : ∀ m, s.time.cal ≠ .measuring m) :
    calStartBlock e s =
      if e.toNat < 100000 ∨ 10000000 < e.toNat then refuse .badValue s else accept (s.startMeasurement e.toNat) := by
  rw [State.startMeasurement, ← CalState.answer_of_not_measuring h]
  unfold calStartBlock
  cases hcal : s.time.cal with
  | measuring m => exact absurd hcal (h m)
  | uncalibrated => rfl
  | calibrated => rfl

end

/-- Settles O12, by the three outcomes of R8: MEASURING, E out of range, and the measurement begun. -/
theorem calStartBeginsMeasurement : Obligations.CalStartBeginsMeasurement := by
  intro e s hs
  have hc := exec_calStart e s
  refine ⟨fun m hm => declined_of_refuse hc hs (calStartBlock_of_measuring hm), fun hm => ⟨fun he => ?_, fun hlo hhi => ?_⟩⟩
  · have hb : calStartBlock e s = refuse .badValue s := by rw [calStartBlock_of_not_measuring hm, if_pos he]
    exact declined_of_refuse hc hs hb
  · have hb : calStartBlock e s = accept (s.startMeasurement e.toNat) := by
      rw [calStartBlock_of_not_measuring hm, if_neg (by omega)]
    exact ⟨_, answers_of_block hc hs hb (State.startMeasurement_onlyChanges _ s) rfl rfl, rfl,
      State.startMeasurement_markedStale _ s⟩

end Sys2Proof.Machine
end

section
/-! Proofs of the family of the site table: one record written under a host command, SITE.SUSPEND and SITE.RESUME. -/

namespace Sys2Proof.Machine

/-! ### Site numbers -/

theorem siteNo?_of_out_of_range {b : Byte} (h : 64 ≤ b.toNat) : siteNo? b = none := dif_neg (Nat.not_lt.mpr h)

theorem siteNo?_of_val {b : Byte} {i : SiteNo} (h : i.val = b.toNat) : siteNo? b = some i := by
  have hlt : b.toNat < 64 := h ▸ i.isLt
  rw [siteNo?, dif_pos hlt, Option.some_inj]
  exact Fin.ext h.symm

/-! ### What is read of a phase -/

/-- Site-held is yes only in SUSPENDED (R16). -/
theorem SiteRecord.siteHeld_iff (r : SiteRecord) : r.siteHeld = true ↔ r.phase = .suspended true := by
  cases h : r.phase <;> simp [SiteRecord.siteHeld, h]

/-- The states of a probed site (R17). -/
theorem SiteRecord.state_of_probed {r : SiteRecord} (h : r.phase.probed = true) :
    r.state = .probing ∨ r.state = .aligned ∨ r.state = .holdover ∨ r.state = .suspect := by
  cases hp : r.phase <;> simp_all [SiteRecord.state, SitePhase.state, SitePhase.probed]

/-! ### The site table takes a new content -/

/-- A new content of the site table hands on SUSPECT, HOLDOVER and DRIFT, and no other cause (R24). -/
theorem State.installSites_conditionsFollow (g : Nat) (t : Table SiteRecord 64) (s : State) :
    conditionsFollow [.suspect, .holdover, .drift] s (s.installSites g t) := by
  refine ⟨rfl, rfl, fun c => ?_⟩
  cases c with
  | suspect | holdover | drift =>
    simp [State.installSites_attention, CauseSet.has, State.holdsCause, Table.any_iff, SiteRecord.isSuspect,
      SiteRecord.isHoldover]
  | fault | cal | zone | step | notice | report => rfl

theorem State.putSite_siteBecomes (i : SiteNo) (r : SiteRecord) (s : State) : siteBecomes i r s (s.putSite i r) :=
  ⟨Table.get_set_self _ i r, fun _ hj => Table.get_set_ne _ hj r⟩

/-- A change of a site's state marks the plan stale (R23). -/
theorem State.putSite_markedStale {i : SiteNo} {r : SiteRecord} {s : State} (h : r.state ≠ (s.sites.get i).state) :
    markedStale s (s.putSite i r) := by
  have hview : (s.sites.get i).planView s.config.growth ≠ r.planView s.config.growth := fun e =>
    h (congrArg PlanView.state e).symm
  have hchange : sitesChangePlan s.config.growth s.config.growth s.sites (s.sites.set i r) = true :=
    List.any_eq_true.mpr ⟨i, List.mem_finRange i, by simpa using hview⟩
  simp [markedStale, State.putSite, State.installSites, hchange]

/-! ### The end of a command frame leaves the causes -/

theorem State.respond_holdsCause (a : Answer) (s : State) (c : Cause) : (s.respond a).holdsCause c = s.holdsCause c := by
  cases c <;> rfl

theorem conditionsFollow_respond {l : List Cause} {s t : State} (a : Answer) (h : conditionsFollow l s t) :
    conditionsFollow l s (t.respond a) := by
  obtain ⟨hmask, hcal, hcauses⟩ := h
  refine ⟨hmask, hcal, fun c => ?_⟩
  rw [State.respond_holdsCause]
  exact hcauses c

/-! ### A site moved by a host command -/

section
variable {c : Instr} {k : CommandClass} {block : State → Answer × State} {s : State}

/-- In READY a command whose block accepts and changes nothing is only answered OK. -/
theorem answersOnly_of_accept (hc : exec c s = .next (s.command k block)) (hs : s.ready) (hb : block s = accept s) :
    answersOnly c (bare .ok) s :=
  ⟨_, answers_of_block hc hs hb (onlyChanges_refl [] s) rfl rfl⟩

/-- In READY a command whose block accepts and puts one site into another state is answered OK; the plan is marked stale and
the site conditions are handed on (R23, R24). -/
theorem answers_of_site_moved {i : SiteNo} {r : SiteRecord} (hc : exec c s = .next (s.command k block)) (hs : s.ready)
    (hb : block s = accept (s.putSite i r)) (hr : r.state ≠ (s.sites.get i).state) :
    ∃ t, answers c (bare .ok) [.sites, .solver, .attention] s t ∧ siteBecomes i r s t ∧ markedStale s t
      ∧ conditionsFollow [.suspect, .holdover, .drift] s t :=
  ⟨_, answers_of_block hc hs hb (State.putSite_onlyChanges i r s) rfl rfl, State.putSite_siteBecomes i r s,
    State.putSite_markedStale hr, conditionsFollow_respond _ (State.installSites_conditionsFollow _ _ s)⟩

end

/-! ### SITE.SUSPEND -/

theorem exec_siteSuspend (site : Byte) (s : State) :
    exec (.siteSuspend site) s = .next (s.command .readyOnly (siteSuspendBlock site)) := rfl

section
variable {site : Byte} {i : SiteNo} {s : State}

theorem siteSuspendBlock_of_no_site (h : siteNo? site = none) : siteSuspendBlock site s = refuse .badValue s := by
  simp only [siteSuspendBlock, h]

theorem siteSuspendBlock_of_vacant (hi : siteNo? site = some i) (h : (s.sites.get i).state = .vacant) :
    siteSuspendBlock site s = refuse .noSuch s := by
  simp only [siteSuspendBlock, hi, h]

theorem siteSuspendBlock_of_retiring (hi : siteNo? site = some i) (h : (s.sites.get i).state = .retiring) :
    siteSuspendBlock site s = refuse .busy s := by
  simp only [siteSuspendBlock, hi, h]

theorem siteSuspendBlock_of_suspended (hi : siteNo? site = some i) (h : (s.sites.get i).state = .suspended) :
    siteSuspendBlock site s = accept s := by
  simp only [siteSuspendBlock, hi, h]

theorem siteSuspendBlock_of_probed (hi : siteNo? site = some i) (h : (s.sites.get i).phase.probed = true) :
    siteSuspendBlock site s = accept (s.putSite i ((s.sites.get i).enterSuspended false)) := by
  rcases SiteRecord.state_of_probed h with h | h | h | h <;> simp only [siteSuspendBlock, hi, h]

end

/-! ### SITE.RESUME -/

theorem exec_siteResume (site : Byte) (s : State) :
    exec (.siteResume site) s = .next (s.command .readyOnly (siteResumeBlock site)) := rfl

section
variable {site : Byte} {i : SiteNo} {s : State}

theorem siteResumeBlock_of_no_site (h : siteNo? site = none) : siteResumeBlock site s = refuse .badValue s := by
  simp only [siteResumeBlock, h]

theorem siteResumeBlock_of_vacant (hi : siteNo? site = some i) (h : (s.sites.get i).state = .vacant) :
    siteResumeBlock site s = refuse .noSuch s := by
  simp only [siteResumeBlock, hi, h]

theorem siteResumeBlock_of_not_suspended (hi : siteNo? site = some i) (hv : (s.sites.get i).state ≠ .vacant)
    (hn : (s.sites.get i).state ≠ .suspended) : siteResumeBlock site s = refuse .badState s := by
  cases h : (s.sites.get i).state with
  | vacant => exact absurd h hv
  | suspended => exact absurd h hn
  | probing | aligned | holdover | suspect | retiring => simp only [siteResumeBlock, hi, h]

theorem siteResumeBlock_of_suspended (hi : siteNo? site = some i) (h : (s.sites.get i).state = .suspended) :
    siteResumeBlock site s =
      if (s.sites.get i).siteHeld then refuse .siteHeld s else accept (s.putSite i (s.sites.get i).enterProbing) := by
  simp only [siteResumeBlock, hi, h]

end

/-! ### The obligation -/

/-- Settles O27, by the outcomes of R31 and R32: each command's block is refused, accepted as it is, or moves the site between
SUSPENDED and PROBING. -/
theorem siteSuspendAndResume : Obligations.SiteSuspendAndResume := by
  intro site s hs
  have hsus := exec_siteSuspend site s
  have hres := exec_siteResume site s
  refine ⟨fun h => ?_, fun i hval => ?_⟩
  · have hno := siteNo?_of_out_of_range h
    exact ⟨declined_of_refuse hsus hs (siteSuspendBlock_of_no_site hno),
      declined_of_refuse hres hs (siteResumeBlock_of_no_site hno)⟩
  have hi := siteNo?_of_val hval
  refine ⟨fun hv => ?vacant, fun hr => ?retiring, fun hss => ?suspended, fun hp => ?probed, fun hv hn => ?notSuspended,
    fun hh => ?held, fun hh => ?free⟩
  case vacant =>
    exact ⟨declined_of_refuse hsus hs (siteSuspendBlock_of_vacant hi hv),
      declined_of_refuse hres hs (siteResumeBlock_of_vacant hi hv)⟩
  case retiring => exact declined_of_refuse hsus hs (siteSuspendBlock_of_retiring hi hr)
  case suspended => exact answersOnly_of_accept hsus hs (siteSuspendBlock_of_suspended hi hss)
  case probed =>
    have hmoved : SiteState.suspended ≠ (s.sites.get i).state := by
      rcases SiteRecord.state_of_probed hp with h | h | h | h <;> rw [h] <;> decide
    exact answers_of_site_moved hsus hs (siteSuspendBlock_of_probed hi hp) hmoved
  case notSuspended => exact declined_of_refuse hres hs (siteResumeBlock_of_not_suspended hi hv hn)
  case held =>
    have hb : siteResumeBlock site s = refuse .siteHeld s := by
      rw [siteResumeBlock_of_suspended hi (congrArg SitePhase.state hh), if_pos ((SiteRecord.siteHeld_iff _).mpr hh)]
    exact declined_of_refuse hres hs hb
  case free =>
    have hstate : (s.sites.get i).state = .suspended := congrArg SitePhase.state hh
    have hmoved : SiteState.probing ≠ (s.sites.get i).state := by rw [hstate]; decide
    have hheld : ¬(s.sites.get i).siteHeld = true := by simp [SiteRecord.siteHeld_iff, hh]
    have hb : siteResumeBlock site s = accept (s.putSite i (s.sites.get i).enterProbing) := by
      rw [siteResumeBlock_of_suspended hi hstate, if_neg hheld]
    exact answers_of_site_moved hres hs hb hmoved

end Sys2Proof.Machine
end

section
/-! Proofs of the family of delay measurement and tracking: the sample of an echo result, and an accepted sample. -/

namespace Sys2Proof.Machine

/-! ### The sample of an echo result (R43, R44) -/

section
variable {loop turnaround : Nat} {asym : Int}

theorem sample?_of_implausible {x : Int} (hx : x = (loop : Int) - turnaround + asym) (h : x < 0 ∨ 33554431 ≤ x) :
    sample? loop turnaround asym = none := by
  subst hx
  exact if_pos h

theorem sample?_of_plausible {x : Int} (hx : x = (loop : Int) - turnaround + asym) (h0 : 0 ≤ x) (h1 : x < 33554431) :
    sample? loop turnaround asym = some ((x.toNat + 1) / 2) := by
  subst hx
  exact if_neg fun h => h.elim (Int.not_lt.mpr h0) (Int.not_le.mpr h1)

end

section
variable {i : SiteNo} {loop turnaround : Nat} {l : Link} {s : State}

/-- Without a sample the echo result is the timeout result (R44). -/
theorem State.echoResult_of_no_sample (hl : (s.sites.get i).link = some l)
    (h : sample? loop turnaround l.asym = none) : s.echoResult i loop turnaround = s.timeoutResult i := by
  simp [State.echoResult, hl, h]

theorem State.echoResult_of_sample {y : Nat} (hl : (s.sites.get i).link = some l)
    (h : sample? loop turnaround l.asym = some y) :
    s.echoResult i loop turnaround =
      ((s.putSite i (applySample s.config y (s.sites.get i)).record).markStaleIf
        (applySample s.config y (s.sites.get i)).completed).latchStep
        (applySample s.config y (s.sites.get i)).reseated := by
  simp [State.echoResult, hl, h]

end

/-- Settles O49, by the two sides of R44: x outside 0..33,554,430, and x inside it. -/
theorem samplesAreHalfTheLoop : Obligations.SamplesAreHalfTheLoop := by
  intro i loop turnaround l s x hl hx
  refine ⟨fun h => State.echoResult_of_no_sample hl (sample?_of_implausible hx h), fun h0 h1 => ?_⟩
  refine ⟨(x.toNat + 1) / 2, _, State.echoResult_of_sample hl (sample?_of_plausible hx h0 h1), by omega, by omega, ?_⟩
  -- the stale mark and the STEP latch leave the site table as the written record left it
  exact State.putSite_siteBecomes i _ s

/-! ### The step of d (R51) -/

/-- The rounded eighth is at most a half away from δ / 8. -/
theorem eighthRounded_nearest (delta : Int) : (8 * eighthRounded delta - delta).natAbs ≤ 4 := by
  unfold eighthRounded
  split <;> omega

theorem eighthRounded_half_away_from_zero {delta : Int} (h : delta.natAbs % 8 = 4) :
    8 * (eighthRounded delta).natAbs = delta.natAbs + 4 := by
  unfold eighthRounded
  split <;> omega

theorem eighthRounded_between (delta : Int) : min 0 delta ≤ eighthRounded delta ∧ eighthRounded delta ≤ max 0 delta := by
  unfold eighthRounded
  split <;> omega

/-- The step never takes d below 0, because it does not pass the sample. -/
theorem stepDelay_eq (d y : Nat) : (stepDelay d y : Int) = d + eighthRounded ((y : Int) - d) := by
  obtain ⟨hlow, -⟩ := eighthRounded_between ((y : Int) - d)
  unfold stepDelay
  omega

theorem stepDelay_between (d y : Nat) : min d y ≤ stepDelay d y ∧ stepDelay d y ≤ max d y := by
  obtain ⟨hlow, hhigh⟩ := eighthRounded_between ((y : Int) - d)
  have hstep := stepDelay_eq d y
  omega

/-! ### The step of s (R52) -/

/-- An eighth truncated toward zero does not pass its dividend on the way down. -/
theorem min_zero_le_tdiv_eight (a : Int) : min 0 a ≤ Int.tdiv a 8 := by
  rcases le_total 0 a with hpos | hneg
  · exact (min_le_left 0 a).trans (Int.tdiv_nonneg hpos (by decide))
  · have hsize : (Int.tdiv a 8).natAbs = a.natAbs / 8 := Int.natAbs_tdiv a 8
    omega

/-- The step takes s not below 0, so that only the limit of 65,535 acts. -/
theorem stepDeviation_eq (s d y : Nat) :
    (stepDeviation s d y : Int) = min 65535 (s + Int.tdiv ((((y : Int) - d).natAbs : Int) - s) 8) := by
  have hnonneg : 0 ≤ (s : Int) + Int.tdiv ((((y : Int) - d).natAbs : Int) - s) 8 := by
    have hstep := min_zero_le_tdiv_eight ((((y : Int) - d).natAbs : Int) - s)
    omega
  rw [stepDeviation, Nat.cast_min, Int.toNat_of_nonneg hnonneg]
  rfl

/-! ### The SUSPECT test in ALIGNED (R59) -/

/-- In ALIGNED u is s. -/
theorem SiteRecord.suspectTest_of_aligned {r : SiteRecord} {list : List Nat} (growth ceiling : Nat)
    (h : r.phase = .aligned list) :
    r.suspectTest growth ceiling = if ceiling < r.s then r.enterSuspect else r := by
  simp only [SiteRecord.suspectTest, SiteRecord.u, h]

/-! ### An accepted sample (R50–R53) -/

section
variable {p : Params} {r : SiteRecord} {e : Estimate} {list : List Nat} {h y : Nat}

theorem SiteRecord.d_of_est (he : r.est = some e) : r.d = e.d := by rw [SiteRecord.d, he]; rfl

/-- In ALIGNED and in HOLDOVER a sample within J of d is accepted (R50). -/
theorem applySample_of_accepted (hp : r.phase = .aligned list ∨ r.phase = .holdover list h)
    (hj : ((y : Int) - r.d).natAbs ≤ p.jumpLimit) : applySample p y r = acceptSample p y r := by
  rcases hp with hp | hp <;> simp only [applySample, hp, trackSample, if_pos hj]

/-- The record that the SUSPECT test meets after an accepted sample (R51–R53, R39). -/
def SiteRecord.accepted (p : Params) (y : Nat) (e : Estimate) (r : SiteRecord) : SiteRecord :=
  { r with
    phase := .aligned [], est := some { d := stepDelay e.d y, reported := e.reported }, s := stepDeviation r.s e.d y, m := 0
    drift := driftRule p.driftThreshold (some { d := stepDelay e.d y, reported := e.reported }) }

theorem acceptSample_of_est (p : Params) (y : Nat) (he : r.est = some e) :
    acceptSample p y r =
      { record := (r.accepted p y e).suspectTest p.growth p.ceiling, completed := false, reseated := false } := by
  rw [acceptSample, SiteRecord.d_of_est he, he]
  rfl

theorem SiteRecord.accepted_suspectTest (p : Params) (y : Nat) (e : Estimate) (r : SiteRecord) :
    (r.accepted p y e).suspectTest p.growth p.ceiling =
      if p.ceiling < stepDeviation r.s e.d y then (r.accepted p y e).enterSuspect else r.accepted p y e :=
  SiteRecord.suspectTest_of_aligned p.growth p.ceiling (list := []) rfl

end

/-- Settles O50: the step of d (R51), the step of s (R52), and the record handed to the SUSPECT test (R53, R59). -/
theorem acceptedSampleMovesEstimate : Obligations.AcceptedSampleMovesEstimate := by
  intro p r e list h y d' s' delta hphase he hdelta hj hd hs
  subst hdelta hd hs
  have happly : applySample p y r =
      { record := (r.accepted p y e).suspectTest p.growth p.ceiling, completed := false, reseated := false } := by
    rw [applySample_of_accepted hphase (by rwa [SiteRecord.d_of_est he]), acceptSample_of_est p y he]
  have hmove : (stepDelay e.d y : Int) - e.d = eighthRounded ((y : Int) - e.d) := by
    rw [stepDelay_eq, add_sub_cancel_left]
  obtain ⟨hlow, hhigh⟩ := stepDelay_between e.d y
  refine ⟨?_, fun hhalf => ?_, hlow, hhigh, stepDeviation_eq r.s e.d y, by rw [happly], by rw [happly], ?_⟩
  · rw [hmove]
    exact Nat.mul_le_mul_left 2 (eighthRounded_nearest _)
  · rw [hmove]
    exact eighthRounded_half_away_from_zero hhalf
  · rintro tracked rfl
    rw [happly]
    exact SiteRecord.accepted_suspectTest p y e r

end Sys2Proof.Machine
end

section
/-! Proofs of the family of the alignment solve: the holds and launch offsets of the eligible sites. -/

namespace Sys2Proof.Machine

/-! ### The quantized hold (R133) -/

theorem Granularity.du_pos (g : Granularity) : 0 < g.du := by
  cases g <;> decide

section
variable {g : Granularity} {v : Int}

theorem quantize_of_neg (h : v < 0) : quantize g v = 0 := if_neg (Int.not_le.mpr h)

theorem quantize_of_nonneg (h : 0 ≤ v) : quantize g v = g.du * ((v.toNat + g.du / 2) / g.du) := if_pos h

/-- From zero on the quantized hold lies in v − ⌊(g − 1) / 2⌋..v + ⌊g / 2⌋: it is v + ⌊g / 2⌋ less the remainder of a division
by g. -/
theorem quantize_between (h : 0 ≤ v) :
    v - ((g.du - 1) / 2 : Nat) ≤ quantize g v ∧ (quantize g v : Int) ≤ v + (g.du / 2 : Nat) := by
  have hpos := g.du_pos
  have hrem := Nat.mod_lt (v.toNat + g.du / 2) hpos
  have hdiv := Nat.div_add_mod (v.toNat + g.du / 2) g.du
  rw [← quantize_of_nonneg h] at hdiv
  omega

end

/-! ### The launch offset (R134) -/

/-- For a site that is not SHORT the launch offset is as far from H + trim as the quantized hold is from the raw hold. -/
theorem launchOffset_between {horizon : Nat} {g : Granularity} {e : EligibleSite} (h : 0 ≤ rawHold horizon e) :
    (horizon : Int) + e.trim - ((g.du - 1) / 2 : Nat) ≤ launchOffset horizon g e
      ∧ (launchOffset horizon g e : Int) ≤ (horizon : Int) + e.trim + (g.du / 2 : Nat) := by
  obtain ⟨hlow, hhigh⟩ := quantize_between (g := g) h
  have hoffset : (launchOffset horizon g e : Int) = e.d + quantize g (rawHold horizon e) := Nat.cast_add _ _
  have hraw : (horizon : Int) + e.trim = e.d + rawHold horizon e := by
    rw [rawHold]
    ring
  omega

/-! ### The plan's entry of an eligible site (R132, R139) -/

/-- What a plan holds of an eligible site, LAUNCH or MUTED. -/
def EligibleSite.planned (horizon : Nat) (e : EligibleSite) : PlannedSite :=
  { trunk := e.trunk, address := e.address, rawHold := rawHold horizon e, short := decide (rawHold horizon e < 0) }

theorem Snapshot.plan_get_of_eligible {n : Snapshot} {i : SiteNo} {e : EligibleSite} (epoch : Nat)
    (h : n.sites.get i = .eligible e) :
    (n.plan epoch).sites.get i =
      if n.muted i then .muted (e.planned n.horizon) else .launch (e.planned n.horizon) := by
  have hget : (n.plan epoch).sites.get i = n.disposition i := Table.get_tabulate n.disposition i
  rw [hget, Snapshot.disposition, h]
  rfl

theorem Snapshot.plan_launch_or_muted {n : Snapshot} {i : SiteNo} {e : EligibleSite} (epoch : Nat)
    (h : n.sites.get i = .eligible e) :
    (n.plan epoch).sites.get i = .launch (e.planned n.horizon)
      ∨ (n.plan epoch).sites.get i = .muted (e.planned n.horizon) := by
  rw [Snapshot.plan_get_of_eligible epoch h]
  cases n.muted i with
  | true => exact .inr rfl
  | false => exact .inl rfl

/-- Settles O33, by the two signs of the raw hold: below zero the quantized hold is 0 (SHORT), from zero on it is the nearest
multiple of g. -/
theorem holdsAndLaunchOffsets : Obligations.HoldsAndLaunchOffsets := by
  rintro n i e epoch g raw hold helig - rfl rfl
  refine ⟨⟨e.planned n.horizon, rfl, rfl, rfl, decide_eq_true_iff, Snapshot.plan_launch_or_muted epoch helig⟩,
    fun hshort => ?short, fun hlong => ?long, rfl⟩
  case short =>
    have hzero := quantize_of_neg (g := g) hshort
    exact ⟨hzero, congrArg (e.d + ·) hzero⟩
  case long =>
    have hhold := quantize_of_nonneg (g := g) hlong
    exact ⟨Dvd.intro _ hhold.symm, hhold, launchOffset_between hlong⟩

end Sys2Proof.Machine
end

section
/-! Proofs of the family of the command port and wire formats: a reading command in READY, and CONFIG.GET. -/

namespace Sys2Proof.Machine

/-! ### Reading commands -/

@[simp] theorem length_bytesOf (n v : Nat) : (bytesOf n v).length = n := by
  induction n generalizing v with
  | zero => rfl
  | succ n ih => rw [bytesOf, List.length_append, ih, List.length_singleton]

/-- In READY a command whose block answers OK with some data and leaves the state as it is only reads that data. -/
theorem reads_of_block {c : Instr} {k : CommandClass} {block : State → Answer × State} {s : State} {data : List Byte}
    (hc : exec c s = .next (s.command k block)) (hs : s.ready) (hb : block s = ({ code := .ok, data := data }, s)) :
    reads c data s :=
  ⟨_, answers_of_block hc hs hb (onlyChanges_refl [] s) rfl rfl⟩

/-! ### CONFIG.GET -/

theorem exec_configGet (s : State) :
    exec .configGet s = .next (s.command .readyOnly fun s => ({ code := .ok, data := s.configData }, s)) := rfl

/-- Nine parameters at their widths make the 23 bytes of R183. -/
theorem State.length_configData (s : State) : s.configData.length = 23 := by
  simp only [State.configData, List.length_append, length_bytesOf]

/-- Settles O15: the block answers with the parameters and returns the state it was given. -/
theorem configGetReadsParameters : Obligations.ConfigGetReadsParameters := fun s hs =>
  ⟨s.configData, reads_of_block (exec_configGet s) hs rfl, s.length_configData, rfl⟩

end Sys2Proof.Machine
end

section
/-! Proofs of what every command changes: the blocks of each command (O2), the front of the queue (O1), and the commands that
the operating state does not take (O13). -/

namespace Sys2Proof.Machine

/-! ### The blocks that host commands change -/

theorem refuse_onlyChanges (l : List Part) (code : ResultCode) (s : State) : onlyChanges l s (refuse code s).2 :=
  onlyChanges_refl l s

theorem State.setParams_onlyChanges (p : Params) (s : State) : onlyChanges [.config] s (s.setParams p) := by
  refine onlyChanges_intro rfl fun q h => ?_
  cases q
  case config => exact absurd h (by decide)
  all_goals rfl

theorem State.setNoticeOrder_onlyChanges (l : List SiteNo) (s : State) :
    onlyChanges [.noticeOrder, .attention] s (s.setNoticeOrder l) := by
  refine onlyChanges_intro rfl fun q h => ?_
  cases q
  case noticeOrder | attention => exact absurd h (by decide)
  all_goals rfl

theorem State.installSites_onlyChanges (g : Nat) (t : Table SiteRecord 64) (s : State) :
    onlyChanges [.sites, .solver, .attention] s (s.installSites g t) := by
  refine onlyChanges_intro rfl fun q h => ?_
  cases q
  case sites | solver | attention => exact absurd h (by decide)
  all_goals rfl

theorem State.putZone_onlyChanges (z : ZoneNo) (b : Option ZoneBody) (s : State) :
    onlyChanges [.zones, .solver] s (s.putZone z b) := by
  refine onlyChanges_intro rfl fun q h => ?_
  cases q
  case zones | solver => exact absurd h (by decide)
  all_goals rfl

theorem State.removeFromZones_onlyChanges (i : SiteNo) (s : State) :
    onlyChanges [.zones, .solver] s (s.removeFromZones i) := by
  refine onlyChanges_intro rfl fun q h => ?_
  cases q
  case zones | solver => exact absurd h (by decide)
  all_goals rfl

/-- A new content of the site table that the plan reads as the old one leaves the solver alone (R23). -/
theorem State.installSites_solver_of_same_view {g : Nat} {t : Table SiteRecord 64} {s : State}
    (h : ∀ i, (t.get i).planView s.config.growth = (s.sites.get i).planView g) : (s.installSites g t).solver = s.solver := by
  have hsame : sitesChangePlan g s.config.growth s.sites t = false := by
    simp [sitesChangePlan, h]
  simp [State.installSites, hsame]

theorem State.installSites_onlyChanges_of_same_view {g : Nat} {t : Table SiteRecord 64} {s : State}
    (h : ∀ i, (t.get i).planView s.config.growth = (s.sites.get i).planView g) :
    onlyChanges [.sites, .attention] s (s.installSites g t) := by
  refine onlyChanges_intro rfl fun q hq => ?_
  cases q
  case sites | attention => exact absurd hq (by decide)
  case solver => exact State.installSites_solver_of_same_view h
  all_goals rfl

/-- One record that the plan reads as the old one leaves the solver alone (R23). -/
theorem State.putSite_onlyChanges_of_same_view {i : SiteNo} {r : SiteRecord} {s : State}
    (h : r.planView s.config.growth = (s.sites.get i).planView s.config.growth) :
    onlyChanges [.sites, .attention] s (s.putSite i r) :=
  State.installSites_onlyChanges_of_same_view fun j => by
    by_cases e : j = i
    · rw [e, Table.get_set_self, h]
    · rw [Table.get_set_ne _ e]

theorem SiteRecord.planView_acknowledged (growth threshold : Nat) (r : SiteRecord) :
    (r.acknowledged threshold).planView growth = r.planView growth := by
  cases h : r.est <;> simp [SiteRecord.planView, SiteRecord.acknowledged, SiteRecord.redrift, SiteRecord.state, SiteRecord.u, h]

section
variable (s : State)

theorem horizonBlock_onlyChanges (value : BitVec 32) :
    onlyChanges [.trunks, .solver, .slots, .attention, .config] s (horizonBlock value s).2 := by
  simp only [horizonBlock]
  split
  · exact onlyChanges_refl _ s
  · exact onlyChanges_trans (onlyChanges_mono (State.setParams_onlyChanges _ s) (by decide))
      (onlyChanges_trans (onlyChanges_mono (State.markStale_onlyChanges _) (by decide))
        (onlyChanges_mono (State.applyHorizon_onlyChanges _ _) (by decide)))

theorem probePeriodBlock_onlyChanges (value : BitVec 32) : onlyChanges [.config] s (probePeriodBlock value s).2 := by
  simp only [probePeriodBlock]
  split
  · exact State.setParams_onlyChanges _ s
  · exact refuse_onlyChanges _ _ s

theorem probeTimeoutBlock_onlyChanges (value : BitVec 32) : onlyChanges [.config] s (probeTimeoutBlock value s).2 := by
  simp only [probeTimeoutBlock]
  split
  · exact State.setParams_onlyChanges _ s
  · exact refuse_onlyChanges _ _ s

theorem growthBlock_onlyChanges (value : BitVec 32) :
    onlyChanges [.sites, .solver, .attention, .config] s (growthBlock value s).2 := by
  simp only [growthBlock]
  split
  · exact onlyChanges_refl _ s
  · exact onlyChanges_trans (onlyChanges_mono (State.setParams_onlyChanges _ s) (by decide))
      (onlyChanges_mono (State.installSites_onlyChanges _ _ _) (by decide))

theorem ceilingBlock_onlyChanges (value : BitVec 32) :
    onlyChanges [.sites, .solver, .attention, .config] s (ceilingBlock value s).2 := by
  simp only [ceilingBlock]
  split
  · exact onlyChanges_refl _ s
  · exact onlyChanges_trans (onlyChanges_mono (State.setParams_onlyChanges _ s) (by decide))
      (onlyChanges_mono (State.mapSites_onlyChanges _ _) (by decide))

theorem driftBlock_onlyChanges (value : BitVec 32) :
    onlyChanges [.sites, .attention, .config] s (driftBlock value s).2 := by
  simp only [driftBlock]
  split
  · exact onlyChanges_refl _ s
  · refine onlyChanges_trans (onlyChanges_mono (State.setParams_onlyChanges _ s) (by decide))
      (onlyChanges_mono (State.installSites_onlyChanges_of_same_view fun i => ?_) (by decide))
    rw [Table.get_mapIdx]
    rfl

theorem trunkSetBlock_onlyChanges (trunk enable gran : Byte) (rate benchDelay : BitVec 24) :
    onlyChanges [.sites, .noticeOrder, .trunks, .solver, .slots, .attention] s
      (trunkSetBlock trunk enable rate gran benchDelay s).2 := by
  unfold trunkSetBlock
  split
  · exact refuse_onlyChanges _ _ s
  · split
    · dsimp only
      split
      · exact refuse_onlyChanges _ _ s
      · exact State.configureTrunk_onlyChanges ..
    · exact refuse_onlyChanges _ _ s

theorem trunkGetBlock_onlyChanges (trunk : Byte) : onlyChanges [] s (trunkGetBlock trunk s).2 := by
  unfold trunkGetBlock
  split <;> exact onlyChanges_refl _ s

theorem calStartBlock_onlyChanges (e : BitVec 24) : onlyChanges [.time, .solver] s (calStartBlock e s).2 := by
  by_cases h : ∃ m, s.time.cal = .measuring m
  · obtain ⟨m, hm⟩ := h
    rw [calStartBlock_of_measuring hm]
    exact refuse_onlyChanges _ _ s
  · rw [calStartBlock_of_not_measuring fun m hm => h ⟨m, hm⟩]
    split
    · exact refuse_onlyChanges _ _ s
    · exact State.startMeasurement_onlyChanges _ s

theorem siteAdmitBlock_onlyChanges (site trunk address : Byte) (asym : BitVec 16) (trim : BitVec 24) :
    onlyChanges [.sites, .solver, .attention] s (siteAdmitBlock site trunk address asym trim s).2 := by
  unfold siteAdmitBlock
  split
  · split
    · exact refuse_onlyChanges _ _ s
    · split
      · exact refuse_onlyChanges _ _ s
      · exact State.putSite_onlyChanges ..
  · exact refuse_onlyChanges _ _ s

theorem siteAmendBlock_onlyChanges (site mask trunk address : Byte) (asym : BitVec 16) (trim : BitVec 24) :
    onlyChanges [.sites, .solver, .attention] s (siteAmendBlock site mask asym trim trunk address s).2 := by
  fun_cases siteAmendBlock
  case case7 => exact State.putSite_onlyChanges ..
  all_goals exact refuse_onlyChanges _ _ s

theorem siteReadBlock_onlyChanges (site acknowledge : Byte) :
    onlyChanges [.sites, .attention] s (siteReadBlock site acknowledge s).2 := by
  unfold siteReadBlock
  split
  · exact refuse_onlyChanges _ _ s
  · dsimp only
    split
    · exact refuse_onlyChanges _ _ s
    · dsimp only
      split
      · exact State.putSite_onlyChanges_of_same_view (SiteRecord.planView_acknowledged _ _ _)
      · exact onlyChanges_refl _ s

theorem siteSuspendBlock_onlyChanges (site : Byte) :
    onlyChanges [.sites, .solver, .attention] s (siteSuspendBlock site s).2 := by
  unfold siteSuspendBlock
  split
  · exact refuse_onlyChanges _ _ s
  · split
    case h_3 => exact onlyChanges_refl _ s
    case h_1 | h_2 => exact refuse_onlyChanges _ _ s
    all_goals exact State.putSite_onlyChanges ..

theorem siteResumeBlock_onlyChanges (site : Byte) :
    onlyChanges [.sites, .solver, .attention] s (siteResumeBlock site s).2 := by
  unfold siteResumeBlock
  split
  · exact refuse_onlyChanges _ _ s
  · split
    case h_2 =>
      split
      · exact refuse_onlyChanges _ _ s
      · exact State.putSite_onlyChanges ..
    all_goals exact refuse_onlyChanges _ _ s

theorem siteRetireBlock_onlyChanges (site : Byte) :
    onlyChanges [.sites, .zones, .solver, .attention] s (siteRetireBlock site s).2 := by
  unfold siteRetireBlock
  split
  · exact refuse_onlyChanges _ _ s
  · split
    case h_1 | h_2 => exact refuse_onlyChanges _ _ s
    all_goals
      exact onlyChanges_trans (onlyChanges_mono (State.putSite_onlyChanges ..) (by decide))
        (onlyChanges_mono (State.removeFromZones_onlyChanges ..) (by decide))

theorem noticeTakeBlock_onlyChanges : onlyChanges [.sites, .noticeOrder, .attention] s (noticeTakeBlock s).2 := by
  unfold noticeTakeBlock
  split
  · exact refuse_onlyChanges _ _ s
  next i rest _ =>
    dsimp only
    split
    · have hput : onlyChanges [.sites, .attention] s (s.putSite i { s.sites.get i with notice := none }) :=
        State.putSite_onlyChanges_of_same_view rfl
      exact onlyChanges_trans (onlyChanges_mono hput (by decide))
        (onlyChanges_mono (State.setNoticeOrder_onlyChanges rest _) (by decide))
    · exact refuse_onlyChanges _ _ s

theorem zoneDefineBlock_onlyChanges (zone y : Byte) (tolerance : BitVec 16) (members : List (Byte × BitVec 16)) :
    onlyChanges [.zones, .solver] s (zoneDefineBlock zone tolerance y members s).2 := by
  unfold zoneDefineBlock
  split
  · split
    · exact refuse_onlyChanges _ _ s
    · exact State.putZone_onlyChanges ..
  · exact refuse_onlyChanges _ _ s

theorem zoneDeleteBlock_onlyChanges (zone : Byte) : onlyChanges [.zones, .solver] s (zoneDeleteBlock zone s).2 := by
  unfold zoneDeleteBlock
  split
  · exact refuse_onlyChanges _ _ s
  · split
    · exact State.putZone_onlyChanges ..
    · exact refuse_onlyChanges _ _ s

theorem zoneReadBlock_onlyChanges (zone : Byte) : onlyChanges [] s (zoneReadBlock zone s).2 := by
  unfold zoneReadBlock
  split
  · exact onlyChanges_refl _ s
  · split <;> exact onlyChanges_refl _ s

theorem planReadBlock_onlyChanges (first count : Byte) : onlyChanges [] s (planReadBlock first count s).2 := by
  unfold planReadBlock
  split
  · exact onlyChanges_refl _ s
  · split <;> exact onlyChanges_refl _ s

theorem batchPostBlock_onlyChanges (tag : Byte) (requested : Instant) (payload : List Byte) :
    onlyChanges [.trunks, .slots, .attention] s (batchPostBlock tag requested payload s).2 := by
  fun_cases batchPostBlock
  case case6 => exact State.acceptPost_onlyChanges ..
  all_goals exact refuse_onlyChanges _ _ s

theorem batchWithdrawBlock_onlyChanges (tag : Byte) : onlyChanges [.slots, .attention] s (batchWithdrawBlock tag s).2 := by
  unfold batchWithdrawBlock
  split
  · exact refuse_onlyChanges _ _ s
  · split
    · exact State.freeSlot_onlyChanges ..
    · exact refuse_onlyChanges _ _ s

theorem batchReportBlock_onlyChanges : onlyChanges [.slots, .attention] s (batchReportBlock s).2 := by
  fun_cases batchReportBlock
  case case2 => exact State.freeSlot_onlyChanges ..
  all_goals exact refuse_onlyChanges _ _ s

end

/-! ### The blocks that events change -/

section
variable (s : State)

theorem initBlock_onlyChanges (mode selfTest : Byte) :
    onlyChanges [.time, .sites, .noticeOrder, .trunks, .zones, .solver, .slots, .attention, .config, .port] s
      (initBlock mode selfTest s).2 := by
  unfold initBlock
  split
  · exact refuse_onlyChanges _ _ s
  · refine onlyChanges_intro rfl fun q h => ?_
    cases q
    case choices | resetUnit => rfl
    all_goals exact absurd h (by decide)

theorem State.releaseIfFree_onlyChanges : onlyChanges [.resetUnit, .port] s s.releaseIfFree := by
  unfold State.releaseIfFree
  split
  · exact onlyChanges_refl _ s
  · refine onlyChanges_intro rfl fun q h => ?_
    cases q
    case resetUnit | port => exact absurd h (by decide)
    all_goals rfl

theorem State.setTime_onlyChanges (t : TimeBase) : onlyChanges [.time] s { s with time := t } := by
  refine onlyChanges_intro rfl fun q h => ?_
  cases q
  case time => exact absurd h (by decide)
  all_goals rfl

theorem State.setPort_onlyChanges (p : CommandPort) : onlyChanges [.port] s { s with port := p } := by
  refine onlyChanges_intro rfl fun q h => ?_
  cases q
  case port => exact absurd h (by decide)
  all_goals rfl

theorem State.setAttention_onlyChanges (a : Attention) : onlyChanges [.attention] s { s with attention := a } := by
  refine onlyChanges_intro rfl fun q h => ?_
  cases q
  case attention => exact absurd h (by decide)
  all_goals rfl

theorem State.setResetUnit_onlyChanges (r : ResetUnit) : onlyChanges [.resetUnit] s { s with resetUnit := r } := by
  refine onlyChanges_intro rfl fun q h => ?_
  cases q
  case resetUnit => exact absurd h (by decide)
  all_goals rfl

theorem State.clearStores_onlyChanges : onlyChanges [.sites, .noticeOrder, .zones, .solver, .slots] s s.clearStores := by
  refine onlyChanges_intro rfl fun q h => ?_
  cases q
  case sites | noticeOrder | zones | solver | slots => exact absurd h (by decide)
  all_goals rfl

theorem State.endMeasurement_onlyChanges (m : Measurement) (o : CalOutcome) (c : Option Nat) :
    onlyChanges [.time, .solver, .attention] s (s.endMeasurement m o c) := by
  refine onlyChanges_intro rfl fun q h => ?_
  cases q
  case time | solver | attention => exact absurd h (by decide)
  all_goals rfl

theorem State.acceptMeasurement_onlyChanges (m : Measurement) (c : Nat) :
    onlyChanges [.time, .trunks, .solver, .attention] s (s.acceptMeasurement m c) := by
  refine onlyChanges_intro rfl fun q h => ?_
  cases q
  case time | trunks | solver | attention => exact absurd h (by decide)
  all_goals rfl

theorem ackBlock_onlyChanges (causes : BitVec 16) : onlyChanges [.attention] s (ackBlock causes s).2 := by
  simp only [ackBlock]
  split
  · exact refuse_onlyChanges _ _ s
  · exact State.setAttention_onlyChanges s _

end

/-! ### Every command -/

/-- A command of which the block changes some of its own blocks completes. -/
theorem completes_of_block {c : Instr} {k : CommandClass} {block : State → Answer × State} {s : State} {l : List Part}
    (hc : exec c s = .next (s.command k block)) (hl : blocksOf c = l ++ [.port]) (h : onlyChanges l s (block s).2) :
    ∃ t, completes c (blocksOf c) s t := by
  refine ⟨_, hc, ?_⟩
  rw [hl]
  exact State.command_onlyChanges k block s (by simp) (onlyChanges_mono h (List.subset_append_left _ _))

/-- A command that is answered with some state completes when that state differs in the command's own blocks alone. -/
theorem completes_of_next {c : Instr} {s t : State} (hc : exec c s = .next t) (h : onlyChanges (blocksOf c) s t) :
    ∃ t, completes c (blocksOf c) s t :=
  ⟨t, hc, h⟩

section
variable (s : State)

theorem execSelfTestEnd_completes (siteOk zoneOk planOk batchOk : Bool) :
    ∃ t, completes (.selfTestEnd siteOk zoneOk planOk batchOk) (blocksOf (.selfTestEnd siteOk zoneOk planOk batchOk)) s t := by
  refine completes_of_next rfl ?_
  simp only [blocksOf]
  split
  · have hstores : onlyChanges [.sites, .noticeOrder, .zones, .solver, .slots, .attention, .port] s s.clearStores :=
      onlyChanges_mono (State.clearStores_onlyChanges s) (by decide)
    split
    · exact onlyChanges_trans hstores (onlyChanges_mono (State.setPort_onlyChanges _ _) (by decide))
    · exact onlyChanges_trans hstores (onlyChanges_trans (onlyChanges_mono (State.setPort_onlyChanges _ _) (by decide))
        (onlyChanges_mono (State.setAttention_onlyChanges _ _) (by decide)))
  · exact onlyChanges_refl _ s

theorem execOscillatorTick_completes : ∃ t, completes .oscillatorTick (blocksOf .oscillatorTick) s t := by
  refine completes_of_next rfl ?_
  split
  · split
    · exact onlyChanges_mono (State.setResetUnit_onlyChanges s _) (by decide)
    · exact onlyChanges_refl _ s
  · have hport := State.setPort_onlyChanges { s with time := s.time.tick } (s.port.raiseRdy s.time.tick.now)
    exact onlyChanges_trans (onlyChanges_mono (State.setTime_onlyChanges s _) (by decide))
      (onlyChanges_mono hport (by decide))

theorem execCalRisingEdge_completes : ∃ t, completes .calRisingEdge (blocksOf .calRisingEdge) s t := by
  refine completes_of_next rfl ?_
  split
  · exact onlyChanges_refl _ s
  · split
    · split <;> exact State.setTime_onlyChanges s _
    all_goals exact State.setTime_onlyChanges s _

theorem execCalFallingEdge_completes : ∃ t, completes .calFallingEdge (blocksOf .calFallingEdge) s t := by
  have hpin : onlyChanges [.time, .trunks, .solver, .attention] s (s.setCalPin false) :=
    onlyChanges_mono (State.setTime_onlyChanges s _) (by decide)
  refine completes_of_next rfl ?_
  split
  · exact onlyChanges_refl _ s
  · dsimp only
    split
    · split
      · exact onlyChanges_trans hpin (onlyChanges_mono (State.setTime_onlyChanges _ _) (by decide))
      · exact hpin
      · split
        · exact onlyChanges_trans hpin (State.acceptMeasurement_onlyChanges _ _ _)
        · exact onlyChanges_trans hpin (onlyChanges_mono (State.endMeasurement_onlyChanges _ _ _ _) (by decide))
    all_goals exact hpin

theorem execCalWindowExpiry_completes : ∃ t, completes .calWindowExpiry (blocksOf .calWindowExpiry) s t := by
  refine completes_of_next rfl ?_
  split
  · split
    · exact State.endMeasurement_onlyChanges s _ _ _
    · exact onlyChanges_refl _ s
  all_goals exact onlyChanges_refl _ s

theorem execBadCommandFrame_completes (bits : List Bool) :
    ∃ t, completes (.badCommandFrame bits) (blocksOf (.badCommandFrame bits)) s t := by
  have hrefused (k : CommandClass) (code : ResultCode) : onlyChanges [.port] s (s.command k (refuse code)) :=
    State.command_onlyChanges k _ s (by decide) (refuse_onlyChanges _ _ s)
  refine completes_of_next rfl ?_
  split
  case h_4 => exact onlyChanges_refl _ s
  all_goals exact hrefused _ _

theorem execSlotDeadlineExpiry_completes (k : TrunkNo) :
    ∃ t, completes (.slotDeadlineExpiry k) (blocksOf (.slotDeadlineExpiry k)) s t := by
  refine completes_of_next rfl ?_
  split
  · split
    · split <;> exact State.putTrunk_onlyChanges ..
    · exact onlyChanges_refl _ s
  all_goals exact onlyChanges_refl _ s

theorem execProbeFrameStart_completes (k : TrunkNo) :
    ∃ t, completes (.probeFrameStart k) (blocksOf (.probeFrameStart k)) s t := by
  refine completes_of_next rfl ?_
  split
  · split <;> exact State.putTrunk_onlyChanges ..
  · exact onlyChanges_refl _ s

theorem execBatchFrameStart_completes (k : TrunkNo) :
    ∃ t, completes (.batchFrameStart k) (blocksOf (.batchFrameStart k)) s t := by
  refine completes_of_next rfl ?_
  simp only [blocksOf]
  split
  · split
    · exact onlyChanges_trans (onlyChanges_mono (State.putSlot_onlyChanges ..) (by decide))
        (onlyChanges_mono (State.putTrunk_onlyChanges ..) (by decide))
    · exact onlyChanges_refl _ s
  · exact onlyChanges_refl _ s

theorem execNoticeReplyStart_completes (k : TrunkNo) :
    ∃ t, completes (.noticeReplyStart k) (blocksOf (.noticeReplyStart k)) s t := by
  refine completes_of_next rfl ?_
  split
  · exact State.putTrunk_onlyChanges ..
  · exact onlyChanges_refl _ s

theorem execFrameEnd_completes (k : TrunkNo) : ∃ t, completes (.frameEnd k) (blocksOf (.frameEnd k)) s t := by
  refine completes_of_next rfl ?_
  simp only [blocksOf]
  split
  · split
    · split
      · exact onlyChanges_trans (onlyChanges_mono (State.putTrunk_onlyChanges ..) (by decide))
          (onlyChanges_mono (State.frameEnded_onlyChanges ..) (by decide))
      all_goals exact onlyChanges_mono (State.putTrunk_onlyChanges ..) (by decide)
    · exact onlyChanges_refl _ s
  · exact onlyChanges_refl _ s

theorem execEchoTaken_completes (k : TrunkNo) (bits : List Bool) :
    ∃ t, completes (.echoTaken k bits) (blocksOf (.echoTaken k bits)) s t := by
  refine completes_of_next rfl ?_
  simp only [blocksOf]
  split
  · split
    · exact onlyChanges_trans (onlyChanges_mono (State.putTrunk_onlyChanges ..) (by decide))
        (State.matchEcho_onlyChanges ..)
    · exact onlyChanges_refl _ s
  · exact onlyChanges_refl _ s

theorem execNoticeArrival_completes (k : TrunkNo) (bits : List Bool) :
    ∃ t, completes (.noticeArrival k bits) (blocksOf (.noticeArrival k bits)) s t := by
  refine completes_of_next rfl ?_
  simp only [blocksOf]
  split
  · split
    · exact onlyChanges_mono (State.putTrunk_onlyChanges ..) (by decide)
    · exact onlyChanges_trans (onlyChanges_mono (State.putTrunk_onlyChanges ..) (by decide))
        (onlyChanges_mono (State.applyNotice_onlyChanges ..) (by decide))
  · exact onlyChanges_refl _ s

theorem execReceiveFrameDiscard_completes (k : TrunkNo) (bits : List Bool) (stop : Bool) :
    ∃ t, completes (.receiveFrameDiscard k bits stop) (blocksOf (.receiveFrameDiscard k bits stop)) s t := by
  refine completes_of_next rfl ?_
  split
  · split
    · exact State.putTrunk_onlyChanges ..
    · exact onlyChanges_refl _ s
  · exact onlyChanges_refl _ s

theorem execReceiveGap_completes (k : TrunkNo) (ticks : Nat) :
    ∃ t, completes (.receiveGap k ticks) (blocksOf (.receiveGap k ticks)) s t := by
  refine completes_of_next rfl ?_
  split
  · exact State.putTrunk_onlyChanges ..
  · exact onlyChanges_refl _ s

theorem execProbeTimeoutExpiry_completes (k : TrunkNo) :
    ∃ t, completes (.probeTimeoutExpiry k) (blocksOf (.probeTimeoutExpiry k)) s t := by
  refine completes_of_next rfl ?_
  simp only [blocksOf]
  split
  · split
    · split
      · exact onlyChanges_trans (onlyChanges_mono (State.putTrunk_onlyChanges ..) (by decide))
          (onlyChanges_mono (State.putSite_onlyChanges ..) (by decide))
      · exact onlyChanges_mono (State.putTrunk_onlyChanges ..) (by decide)
    · exact onlyChanges_refl _ s
  · exact onlyChanges_refl _ s

theorem execBenchEchoDelivery_completes (k : TrunkNo) :
    ∃ t, completes (.benchEchoDelivery k) (blocksOf (.benchEchoDelivery k)) s t := by
  refine completes_of_next rfl ?_
  split
  · split
    · exact onlyChanges_refl _ s
    · exact State.putTrunk_onlyChanges ..
  · exact onlyChanges_refl _ s

theorem execDispatchDeadlineExpiry_completes :
    ∃ t, completes .dispatchDeadlineExpiry (blocksOf .dispatchDeadlineExpiry) s t := by
  refine completes_of_next rfl ?_
  split
  · exact onlyChanges_refl _ s
  · split
    · split
      · exact State.dispatch_onlyChanges ..
      · exact onlyChanges_refl _ s
    · exact onlyChanges_refl _ s

theorem execSettleDeadlineExpiry_completes (i : SlotNo) :
    ∃ t, completes (.settleDeadlineExpiry i) (blocksOf (.settleDeadlineExpiry i)) s t := by
  refine completes_of_next rfl ?_
  split
  · split
    · split
      · exact State.finish_onlyChanges ..
      · exact onlyChanges_refl _ s
    all_goals exact onlyChanges_refl _ s
  · exact onlyChanges_refl _ s

theorem execSolveStart_completes : ∃ t, completes .solveStart (blocksOf .solveStart) s t := by
  refine completes_of_next rfl ?_
  split
  · exact State.startSolve_onlyChanges s
  · exact onlyChanges_refl _ s

theorem execSolveCompletion_completes : ∃ t, completes .solveCompletion (blocksOf .solveCompletion) s t := by
  refine completes_of_next rfl ?_
  split
  · exact onlyChanges_trans (onlyChanges_mono (State.completeSolve_onlyChanges ..) (by decide))
      (onlyChanges_mono (State.countChoice_onlyChanges _) (by decide))
  · exact onlyChanges_refl _ s

theorem execCommandFrameStart_completes : ∃ t, completes .commandFrameStart (blocksOf .commandFrameStart) s t := by
  refine completes_of_next rfl ?_
  split
  · exact State.setPort_onlyChanges s _
  · exact onlyChanges_refl _ s

theorem execPendingFrame_completes : ∃ t, completes .pendingFrame (blocksOf .pendingFrame) s t := by
  refine completes_of_next rfl ?_
  split
  · exact State.setPort_onlyChanges s _
  · exact onlyChanges_refl _ s

theorem execDelimiterFound_completes (k : TrunkNo) (line : List (Bool × Nat)) :
    ∃ t, completes (.delimiterFound k line) (blocksOf (.delimiterFound k line)) s t := by
  refine completes_of_next rfl ?_
  split
  · exact State.putTrunk_onlyChanges ..
  · exact onlyChanges_refl _ s

theorem execPowerOn_completes : ∃ t, completes .powerOn (blocksOf .powerOn) s t := by
  refine completes_of_next rfl (onlyChanges_intro rfl fun q h => ?_)
  cases q
  case choices => rfl
  all_goals exact absurd h (by decide)

theorem execReset_completes : ∃ t, completes .reset (blocksOf .reset) s t := by
  refine completes_of_next rfl (onlyChanges_intro rfl fun q h => ?_)
  cases q
  case choices => rfl
  all_goals exact absurd h (by decide)

theorem execResetRelease_completes : ∃ t, completes .resetRelease (blocksOf .resetRelease) s t := by
  refine completes_of_next rfl ?_
  split
  · exact onlyChanges_trans (onlyChanges_mono (State.setResetUnit_onlyChanges s _) (by decide))
      (State.releaseIfFree_onlyChanges _)
  · exact onlyChanges_refl _ s

theorem execPowerOnResetRelease_completes :
    ∃ t, completes .powerOnResetRelease (blocksOf .powerOnResetRelease) s t := by
  refine completes_of_next rfl ?_
  split
  · exact onlyChanges_trans (onlyChanges_mono (State.setResetUnit_onlyChanges s _) (by decide))
      (State.releaseIfFree_onlyChanges _)
  · exact onlyChanges_refl _ s

theorem execInit_completes (mode selfTest : Byte) :
    ∃ t, completes (.init mode selfTest) (blocksOf (.init mode selfTest)) s t :=
  completes_of_next rfl (State.command_onlyChanges .initial _ s (by simp [blocksOf]) (initBlock_onlyChanges s mode selfTest))

end

/-- Settles O2, one command after the other: each block, and each event, changes what the lemmas above say. -/
theorem eachCommandChangesOnlyItsBlocks : Obligations.EachCommandChangesOnlyItsBlocks := by
  intro c s
  cases c with
  | powerOn => exact execPowerOn_completes s
  | reset => exact execReset_completes s
  | resetRelease => exact execResetRelease_completes s
  | powerOnResetRelease => exact execPowerOnResetRelease_completes s
  | oscillatorTick => exact execOscillatorTick_completes s
  | calRisingEdge => exact execCalRisingEdge_completes s
  | calFallingEdge => exact execCalFallingEdge_completes s
  | calWindowExpiry => exact execCalWindowExpiry_completes s
  | pendingFrame => exact execPendingFrame_completes s
  | init mode selfTest => exact execInit_completes s mode selfTest
  | nop => exact completes_of_block (l := []) rfl rfl (onlyChanges_refl _ s)
  | status => exact completes_of_block (l := []) rfl rfl (onlyChanges_refl _ s)
  | ack causes => exact completes_of_block rfl rfl (ackBlock_onlyChanges s causes)
  | configSetHorizon value => exact completes_of_block rfl rfl (horizonBlock_onlyChanges s value)
  | configSetJumpLimit value => exact completes_of_block rfl rfl (State.setParams_onlyChanges _ s)
  | configSetProbePeriod value => exact completes_of_block rfl rfl (probePeriodBlock_onlyChanges s value)
  | configSetProbeTimeout value => exact completes_of_block rfl rfl (probeTimeoutBlock_onlyChanges s value)
  | configSetHoldoverGrowth value => exact completes_of_block rfl rfl (growthBlock_onlyChanges s value)
  | configSetUncertaintyCeiling value => exact completes_of_block rfl rfl (ceilingBlock_onlyChanges s value)
  | configSetLaunchSpacing value => exact completes_of_block rfl rfl (State.setParams_onlyChanges _ s)
  | configSetDriftThreshold value => exact completes_of_block rfl rfl (driftBlock_onlyChanges s value)
  | configSetAttentionMask value => exact completes_of_block rfl rfl (State.setAttention_onlyChanges s _)
  | configGet => exact completes_of_block (l := []) rfl rfl (onlyChanges_refl _ s)
  | trunkSet trunk enable rate gran benchDelay =>
    exact completes_of_block rfl rfl (trunkSetBlock_onlyChanges s trunk enable gran rate benchDelay)
  | trunkGet trunk => exact completes_of_block rfl rfl (trunkGetBlock_onlyChanges s trunk)
  | calStart e => exact completes_of_block rfl rfl (calStartBlock_onlyChanges s e)
  | timeRead => exact completes_of_block (l := []) rfl rfl (onlyChanges_refl _ s)
  | siteAdmit site trunk address asym trim =>
    exact completes_of_block rfl rfl (siteAdmitBlock_onlyChanges s site trunk address asym trim)
  | siteAmend site mask asym trim trunk address =>
    exact completes_of_block rfl rfl (siteAmendBlock_onlyChanges s site mask trunk address asym trim)
  | siteRead site acknowledge => exact completes_of_block rfl rfl (siteReadBlock_onlyChanges s site acknowledge)
  | siteSuspend site => exact completes_of_block rfl rfl (siteSuspendBlock_onlyChanges s site)
  | siteResume site => exact completes_of_block rfl rfl (siteResumeBlock_onlyChanges s site)
  | siteRetire site => exact completes_of_block rfl rfl (siteRetireBlock_onlyChanges s site)
  | zoneDefine zone tolerance y members =>
    exact completes_of_block rfl rfl (zoneDefineBlock_onlyChanges s zone y tolerance members)
  | zoneDelete zone => exact completes_of_block rfl rfl (zoneDeleteBlock_onlyChanges s zone)
  | zoneRead zone => exact completes_of_block rfl rfl (zoneReadBlock_onlyChanges s zone)
  | planRead first count => exact completes_of_block rfl rfl (planReadBlock_onlyChanges s first count)
  | batchPost tag requested payload => exact completes_of_block rfl rfl (batchPostBlock_onlyChanges s tag requested payload)
  | batchWithdraw tag => exact completes_of_block rfl rfl (batchWithdrawBlock_onlyChanges s tag)
  | batchReport => exact completes_of_block rfl rfl (batchReportBlock_onlyChanges s)
  | noticeTake => exact completes_of_block rfl rfl (noticeTakeBlock_onlyChanges s)
  | selfTestEnd siteOk zoneOk planOk batchOk => exact execSelfTestEnd_completes s siteOk zoneOk planOk batchOk
  | slotDeadlineExpiry k => exact execSlotDeadlineExpiry_completes s k
  | probeFrameStart k => exact execProbeFrameStart_completes s k
  | batchFrameStart k => exact execBatchFrameStart_completes s k
  | noticeReplyStart k => exact execNoticeReplyStart_completes s k
  | frameEnd k => exact execFrameEnd_completes s k
  | echoTaken k bits => exact execEchoTaken_completes s k bits
  | noticeArrival k bits => exact execNoticeArrival_completes s k bits
  | receiveFrameDiscard k bits stop => exact execReceiveFrameDiscard_completes s k bits stop
  | receiveGap k ticks => exact execReceiveGap_completes s k ticks
  | probeTimeoutExpiry k => exact execProbeTimeoutExpiry_completes s k
  | benchEchoDelivery k => exact execBenchEchoDelivery_completes s k
  | dispatchDeadlineExpiry => exact execDispatchDeadlineExpiry_completes s
  | settleDeadlineExpiry i => exact execSettleDeadlineExpiry_completes s i
  | solveStart => exact execSolveStart_completes s
  | solveCompletion => exact execSolveCompletion_completes s
  | commandFrameStart => exact execCommandFrameStart_completes s
  | badCommandFrame bits => exact execBadCommandFrame_completes s bits
  | delimiterFound k line => exact execDelimiterFound_completes s k line

/-- The next state of a command differs in the command's own blocks alone. -/
theorem exec_onlyChanges {c : Instr} {s t : State} (h : exec c s = .next t) : onlyChanges (blocksOf c) s t := by
  obtain ⟨u, hu, honly⟩ := eachCommandChangesOnlyItsBlocks c s
  rw [hu] at h
  cases h
  exact honly

/-- Settles O1: the two branches of the step. -/
theorem stepTakesFrontCommand : Obligations.StepTakesFrontCommand := by
  refine ⟨fun c rest s hs => ?_, fun s hs => ?_⟩
  · rw [step, hs]
  · rw [step, hs]

/-! ### Host commands that are not taken -/

/-- A host command is its block at the end of a command frame, of the class that R180 gives it. -/
theorem exec_hostCommand {c : Instr} {k : CommandClass} (h : hostCommand c = some k) :
    ∃ block, ∀ s, exec c s = .next (s.command k block) := by
  cases c
  case ack | configSetHorizon | configSetJumpLimit | configSetProbePeriod | configSetProbeTimeout | configSetHoldoverGrowth
      | configSetUncertaintyCeiling | configSetLaunchSpacing | configSetDriftThreshold | configSetAttentionMask | configGet
      | trunkSet | trunkGet | calStart | timeRead | siteAdmit | siteAmend | siteRead | siteSuspend | siteResume | siteRetire
      | zoneDefine | zoneDelete | zoneRead | planRead | batchPost | batchWithdraw | batchReport | noticeTake | init | nop
      | status =>
    cases h
    exact ⟨_, fun _ => rfl⟩
  all_goals cases h

/-- Without a command frame a host command has no effect. -/
theorem State.command_of_no_frame (k : CommandClass) (block : State → Answer × State) {s : State}
    (h : s.port.frameOpen = false) : s.command k block = s := by
  simp [State.command, h]

/-- A command that the operating state does not take is declined with the code of R180. -/
theorem declined_of_notTaken {c : Instr} {k : CommandClass} {block : State → Answer × State} {s : State} {code : ResultCode}
    (hc : exec c s = .next (s.command k block)) (hopen : s.port.frameOpen = true) (hk : notTaken k s.port.op = some code) :
    declined c code s := by
  have hcommand : s.command k block = s.respond (bare code) := by simp [State.command, hopen, hk, bare]
  exact ⟨_, ⟨by rw [hc, hcommand], State.respond_onlyChanges _ s⟩, rfl⟩

/-- Settles O13, by the table of R180: no frame, NOT_READY, and BUSY for INIT in TESTING. -/
theorem commandsNotTakenChangeNothing : Obligations.CommandsNotTakenChangeNothing := by
  intro c k s hk
  obtain ⟨block, hc⟩ := exec_hostCommand hk
  refine ⟨fun hno => ?_, fun hopen hk hop => ?_, fun hopen hk hop => ?_⟩
  · rw [hasNoEffect, hc, State.command_of_no_frame k block hno]
  · refine declined_of_notTaken (hc s) hopen ?_
    subst hk
    cases h : s.port.op
    case ready => exact absurd h hop
    all_goals rfl
  · refine declined_of_notTaken (hc s) hopen ?_
    rw [hk, hop]
    rfl

end Sys2Proof.Machine
end

section
/-! Proofs of the laws of the time base and the operating parameters (O55). -/

namespace Sys2Proof.Machine

/-! ### From commands to steps -/

/-- A step idles or carries out a command on the state with the rest of the queue. -/
theorem step_cases {s t : State} (h : step s = .next t) : t = s ∨ ∃ c rest, exec c { s with pending := rest } = .next t := by
  rw [step] at h
  split at h
  · cases h
    exact .inl rfl
  · exact .inr ⟨_, _, h⟩

/-- What the end of a command frame keeps: what the block keeps and the stored answer does not touch. -/
theorem State.command_keeps {P : State → Prop} (k : CommandClass) {block : State → Answer × State} {s : State}
    (hrespond : ∀ a u, P u → P (u.respond a)) (hs : P s) (hblock : P (block s).2) : P (s.command k block) := by
  rcases State.command_cases k block s with ⟨_, e⟩ | ⟨code, _, _, e⟩ | ⟨_, _, e⟩ <;> rw [e]
  · exact hs
  · exact hrespond _ _ hs
  · exact hrespond _ _ hblock

/-- A block that a command does not own is as it was. -/
theorem exec_same {c : Instr} {s t : State} (p : Part) (h : exec c s = .next t) (hp : p ∉ blocksOf c) : p.same s t :=
  (exec_onlyChanges h).2 p hp

/-! ### The time base -/

theorem TimeBase.cleared_lawful (pin : Bool) : (TimeBase.cleared pin).lawful := by
  have hlow : 4112063 ≤ nominalF := by decide
  have hhigh : nominalF ≤ 4279902 := by decide
  have hfraction : 0 < 16777216 := by decide
  refine ⟨hlow, hhigh, hfraction, fun _ => rfl, fun m hm => ?_⟩
  cases hm

section
variable {t : TimeBase}

theorem TimeBase.tick_f (t : TimeBase) : t.tick.f = t.f := by
  unfold TimeBase.tick
  split <;> rfl

theorem TimeBase.tick_cal (t : TimeBase) : t.tick.cal = t.cal := by
  unfold TimeBase.tick
  split <;> rfl

/-- F is below one whole du, so that one carry keeps the fraction below it (R2). -/
theorem TimeBase.tick_fraction (hf : t.f ≤ 4279902) (h : t.fraction < 16777216) : t.tick.fraction < 16777216 := by
  unfold TimeBase.tick accumulatorOne
  split
  · change t.fraction + t.f - 16777216 < 16777216
    omega
  · change t.fraction + t.f < 16777216
    omega

theorem TimeBase.tick_lawful (h : t.lawful) : t.tick.lawful := by
  obtain ⟨hlow, hhigh, hfraction, hnominal, he⟩ := h
  rw [TimeBase.lawful, TimeBase.tick_f, TimeBase.tick_cal]
  exact ⟨hlow, hhigh, TimeBase.tick_fraction hhigh hfraction, hnominal, he⟩

/-- The law does not speak of the counts, the pin and the past of now. -/
theorem TimeBase.lawful_of_eq {u : TimeBase} (h : t.lawful) (hf : u.f = t.f) (hfraction : u.fraction = t.fraction)
    (hcal : u.cal = t.cal) : u.lawful := by
  rw [TimeBase.lawful, hf, hfraction, hcal]
  exact h

/-- A measurement that goes on with the return state and the E it has keeps the law. -/
theorem TimeBase.measuring_lawful {m n : Measurement} {u : TimeBase} (h : t.lawful) (hm : t.cal = .measuring m)
    (hf : u.f = t.f) (hfraction : u.fraction = t.fraction) (hcal : u.cal = .measuring n)
    (hr : n.returnCalibrated = m.returnCalibrated) (he : n.e = m.e) : u.lawful := by
  obtain ⟨hlow, hhigh, hlt, hnominal, hrange⟩ := h
  rw [TimeBase.lawful, hf, hfraction, hcal]
  refine ⟨hlow, hhigh, hlt, fun ha => hnominal ?_, fun k hk => ?_⟩
  · rw [hm]
    exact hr.symm.trans ha
  · cases hk
    rw [he]
    exact hrange m hm

/-- A measurement that ends without an F leaves the F of its return state (R7). -/
theorem TimeBase.failed_lawful {m : Measurement} (o : CalOutcome) (c : Option Nat) (x : Instant) (h : t.lawful)
    (hm : t.cal = .measuring m) : (t.failed m o c x).lawful := by
  obtain ⟨hlow, hhigh, hlt, hnominal, -⟩ := h
  cases hr : m.returnCalibrated
  · have hcal : (t.failed m o c x).cal = .uncalibrated := by simp [TimeBase.failed, Measurement.returnState, hr]
    refine ⟨hlow, hhigh, hlt, fun _ => hnominal (by rw [hm]; exact hr), fun n hn => ?_⟩
    rw [hcal] at hn
    cases hn
  · have hcal : (t.failed m o c x).cal = .calibrated := by simp [TimeBase.failed, Measurement.returnState, hr]
    refine ⟨hlow, hhigh, hlt, fun ha => ?_, fun n hn => ?_⟩
    · rw [hcal] at ha
      cases ha
    · rw [hcal] at hn
      cases hn

end

/-- A count within 2 % of 4E gives an F within 2 % of 2^22, so that F stays in the range of R3 (R10, R11). -/
theorem newRateFactor_inRange {e c : Nat} (he : 100000 ≤ e) (h : countAccepted e c = true) :
    4112063 ≤ newRateFactor e c ∧ newRateFactor e c ≤ 4279902 := by
  have hc : ((c : Int) - 4 * e).natAbs ≤ 4 * e / 50 := of_decide_eq_true h
  have hpos : 0 < 2 * c := by omega
  have hlow : 4112063 * (2 * c) ≤ 2 * e * accumulatorOne + c := by unfold accumulatorOne; omega
  have hhigh : 2 * e * accumulatorOne + c < 4279903 * (2 * c) := by unfold accumulatorOne; omega
  exact ⟨(Nat.le_div_iff_mul_le hpos).mpr hlow, Nat.le_of_lt_succ ((Nat.div_lt_iff_lt_mul hpos).mpr hhigh)⟩

theorem State.acceptMeasurement_lawful {m : Measurement} {c : Nat} {s : State} (h : s.time.lawful)
    (he : 100000 ≤ m.e) (hc : countAccepted m.e c = true) : (s.acceptMeasurement m c).time.lawful := by
  obtain ⟨hlow, hhigh⟩ := newRateFactor_inRange he hc
  obtain ⟨-, -, hfraction, -, -⟩ := h
  refine ⟨hlow, hhigh, hfraction, fun ha => ?_, fun n hn => ?_⟩
  · cases ha
  · cases hn

section
variable {s t : State}

theorem execOscillatorTick_clock (h : exec .oscillatorTick s = .next t) (hs : s.time.lawful) : t.time.lawful := by
  cases h
  split
  · split <;> exact hs
  · exact TimeBase.tick_lawful hs

theorem execCalRisingEdge_clock (h : exec .calRisingEdge s = .next t) (hs : s.time.lawful) : t.time.lawful := by
  have hpin : (s.setCalPin true).time.lawful := TimeBase.lawful_of_eq hs rfl rfl rfl
  cases h
  split
  · exact hs
  · split
    next m hm =>
      split
      · exact TimeBase.measuring_lawful hs hm rfl rfl rfl rfl rfl
      · exact hpin
    all_goals exact hpin

theorem execCalFallingEdge_clock (h : exec .calFallingEdge s = .next t) (hs : s.time.lawful) : t.time.lawful := by
  have hpin : (s.setCalPin false).time.lawful := TimeBase.lawful_of_eq hs rfl rfl rfl
  cases h
  split
  · exact hs
  · dsimp only
    split
    next m hm =>
      split
      · exact TimeBase.measuring_lawful hs hm rfl rfl rfl rfl rfl
      · exact hpin
      · split
        next hc =>
          obtain ⟨-, -, -, -, hrange⟩ := hs
          exact State.acceptMeasurement_lawful hpin (hrange m hm).1 hc
        · exact TimeBase.failed_lawful _ _ _ hpin hm
    all_goals exact hpin

theorem execCalWindowExpiry_clock (h : exec .calWindowExpiry s = .next t) (hs : s.time.lawful) : t.time.lawful := by
  cases h
  split
  next m hm =>
    split
    · exact TimeBase.failed_lawful _ _ _ hs hm
    · exact hs
  all_goals exact hs

theorem State.startMeasurement_lawful {e : Nat} (hs : s.time.lawful) (hcal : ∀ m, s.time.cal ≠ .measuring m)
    (hlow : 100000 ≤ e) (hhigh : e ≤ 10000000) : (s.startMeasurement e).time.lawful := by
  obtain ⟨hf, hf', hfraction, hnominal, -⟩ := hs
  refine ⟨hf, hf', hfraction, fun ha => hnominal ?_, fun m hm => ?_⟩
  · rw [CalState.answer_of_not_measuring hcal]
    exact ha
  · cases hm
    exact ⟨hlow, hhigh⟩

theorem calStartBlock_clock {e : BitVec 24} (hs : s.time.lawful) : (calStartBlock e s).2.time.lawful := by
  by_cases hm : ∃ m, s.time.cal = .measuring m
  · obtain ⟨m, hm⟩ := hm
    rw [calStartBlock_of_measuring hm]
    exact hs
  · have hcal : ∀ m, s.time.cal ≠ .measuring m := fun m e => hm ⟨m, e⟩
    rw [calStartBlock_of_not_measuring hcal]
    split
    · exact hs
    next he => exact State.startMeasurement_lawful hs hcal (by omega) (by omega)

theorem initBlock_clock {mode selfTest : Byte} (hs : s.time.lawful) : (initBlock mode selfTest s).2.time.lawful := by
  unfold initBlock
  split
  · exact hs
  · exact TimeBase.cleared_lawful _

/-- The commands that own the time base keep its law; every other command leaves it as it is. -/
theorem exec_keeps_clock {c : Instr} (h : exec c s = .next t) (hs : s.time.lawful) : t.time.lawful := by
  have hkept (hc : Part.time ∉ blocksOf c) : t.time.lawful := by
    have e : t.time = s.time := exec_same .time h hc
    rw [e]
    exact hs
  cases c
  case powerOn | reset =>
    cases h
    exact TimeBase.cleared_lawful _
  case init mode selfTest =>
    cases h
    exact State.command_keeps (P := fun u => u.time.lawful) _ (fun _ _ hu => hu) hs (initBlock_clock hs)
  case calStart e =>
    cases h
    exact State.command_keeps (P := fun u => u.time.lawful) _ (fun _ _ hu => hu) hs (calStartBlock_clock hs)
  case oscillatorTick => exact execOscillatorTick_clock h hs
  case calRisingEdge => exact execCalRisingEdge_clock h hs
  case calFallingEdge => exact execCalFallingEdge_clock h hs
  case calWindowExpiry => exact execCalWindowExpiry_clock h hs
  all_goals exact hkept (by simp [blocksOf])

end

/-! ### The operating parameters -/

theorem Params.cleared_lawful : Params.cleared.lawful := by
  unfold Params.lawful Params.cleared
  decide

theorem clamp_between {low high : Nat} (h : low ≤ high) (v : Nat) : low ≤ clamp low high v ∧ clamp low high v ≤ high := by
  unfold clamp
  omega

section
variable {s t : State}

theorem State.applyHorizon_config (h : Nat) (s : State) : (s.applyHorizon h).config = s.config :=
  (State.applyHorizon_onlyChanges h s).2 .config (by decide)

/-- Every CONFIG.SET stores a clamped value, and P and Q only with Q below P (R90, R182). -/
theorem horizonBlock_params {value : BitVec 32} (hs : s.config.lawful) : (horizonBlock value s).2.config.lawful := by
  obtain ⟨-, hrest⟩ := hs
  simp only [horizonBlock]
  split
  next e => exact ⟨by rw [← e]; exact clamp_between (by decide) _, hrest⟩
  · rw [State.applyHorizon_config]
    exact ⟨clamp_between (by decide) _, hrest⟩

theorem jumpLimitBlock_params {value : BitVec 32} (hs : s.config.lawful) : (jumpLimitBlock value s).2.config.lawful := by
  obtain ⟨hh, -, hrest⟩ := hs
  exact ⟨hh, clamp_between (by decide) _, hrest⟩

theorem probePeriodBlock_params {value : BitVec 32} (hs : s.config.lawful) : (probePeriodBlock value s).2.config.lawful := by
  obtain ⟨hh, hj, -, hq, hg, hu, hw, hd, -⟩ := id hs
  simp only [probePeriodBlock]
  split
  next hlt => exact ⟨hh, hj, clamp_between (by decide) _, hq, hg, hu, hw, hd, hlt⟩
  · exact hs

theorem probeTimeoutBlock_params {value : BitVec 32} (hs : s.config.lawful) : (probeTimeoutBlock value s).2.config.lawful := by
  obtain ⟨hh, hj, hp, -, hg, hu, hw, hd, -⟩ := id hs
  simp only [probeTimeoutBlock]
  split
  next hlt => exact ⟨hh, hj, hp, clamp_between (by decide) _, hg, hu, hw, hd, hlt⟩
  · exact hs

theorem growthBlock_params {value : BitVec 32} (hs : s.config.lawful) : (growthBlock value s).2.config.lawful := by
  obtain ⟨hh, hj, hp, hq, -, hrest⟩ := id hs
  simp only [growthBlock]
  split
  · exact hs
  · exact ⟨hh, hj, hp, hq, (clamp_between (by decide) _).2, hrest⟩

theorem ceilingBlock_params {value : BitVec 32} (hs : s.config.lawful) : (ceilingBlock value s).2.config.lawful := by
  obtain ⟨hh, hj, hp, hq, hg, -, hrest⟩ := id hs
  simp only [ceilingBlock]
  split
  · exact hs
  · exact ⟨hh, hj, hp, hq, hg, clamp_between (by decide) _, hrest⟩

theorem spacingBlock_params {value : BitVec 32} (hs : s.config.lawful) : (spacingBlock value s).2.config.lawful := by
  obtain ⟨hh, hj, hp, hq, hg, hu, -, hrest⟩ := hs
  exact ⟨hh, hj, hp, hq, hg, hu, (clamp_between (by decide) _).2, hrest⟩

theorem driftBlock_params {value : BitVec 32} (hs : s.config.lawful) : (driftBlock value s).2.config.lawful := by
  obtain ⟨hh, hj, hp, hq, hg, hu, hw, -, hlt⟩ := id hs
  simp only [driftBlock]
  split
  · exact hs
  · exact ⟨hh, hj, hp, hq, hg, hu, hw, (clamp_between (by decide) _).2, hlt⟩

theorem initBlock_params {mode selfTest : Byte} (hs : s.config.lawful) : (initBlock mode selfTest s).2.config.lawful := by
  unfold initBlock
  split
  · exact hs
  · exact Params.cleared_lawful

/-- The commands that own the configuration store keep its law; every other command leaves it as it is. -/
theorem exec_keeps_params {c : Instr} (h : exec c s = .next t) (hs : s.config.lawful) : t.config.lawful := by
  have hkept (hc : Part.config ∉ blocksOf c) : t.config.lawful := by
    have e : t.config = s.config := exec_same .config h hc
    rw [e]
    exact hs
  have hblock {k : CommandClass} {block : State → Answer × State} (hb : (block s).2.config.lawful) :
      (s.command k block).config.lawful :=
    State.command_keeps (P := fun u => u.config.lawful) k (fun _ _ hu => hu) hs hb
  cases c
  case powerOn | reset =>
    cases h
    exact Params.cleared_lawful
  case init => cases h; exact hblock (initBlock_params hs)
  case configSetHorizon => cases h; exact hblock (horizonBlock_params hs)
  case configSetJumpLimit => cases h; exact hblock (jumpLimitBlock_params hs)
  case configSetProbePeriod => cases h; exact hblock (probePeriodBlock_params hs)
  case configSetProbeTimeout => cases h; exact hblock (probeTimeoutBlock_params hs)
  case configSetHoldoverGrowth => cases h; exact hblock (growthBlock_params hs)
  case configSetUncertaintyCeiling => cases h; exact hblock (ceilingBlock_params hs)
  case configSetLaunchSpacing => cases h; exact hblock (spacingBlock_params hs)
  case configSetDriftThreshold => cases h; exact hblock (driftBlock_params hs)
  all_goals exact hkept (by simp [blocksOf])

end

/-- Settles O55: each command keeps both laws, and a step is a command or idles. -/
theorem everyStepKeepsClockAndParameters : Obligations.EveryStepKeepsClockAndParameters := by
  intro s t h
  rcases step_cases h with rfl | ⟨c, rest, h⟩
  · exact ⟨id, id⟩
  · exact ⟨fun hs => exec_keeps_clock h hs, fun hs => exec_keeps_params h hs⟩

end Sys2Proof.Machine
end

section
/-! What the site operations make of one record, said once: the SUSPECT test, the tracker, the entries into a state, an
amendment and a notice. The laws of the site table rest on these. -/

namespace Sys2Proof.Machine

/-! ### The SUSPECT test (R59) -/

section
variable {growth ceiling : Nat} {r : SiteRecord}

/-- The SUSPECT test leaves a record as it is or sends one whose u exceeds U to SUSPECT. -/
theorem SiteRecord.suspectTest_cases (growth ceiling : Nat) (r : SiteRecord) :
    (r.suspectTest growth ceiling = r ∧ ∀ u ∈ r.u growth, u ≤ ceiling)
      ∨ (r.suspectTest growth ceiling = r.enterSuspect ∧ ∃ u, r.u growth = some u ∧ ceiling < u) := by
  unfold SiteRecord.suspectTest
  cases hu : r.u growth with
  | none => exact .inl ⟨rfl, fun u h => by cases h⟩
  | some u =>
    by_cases hlt : ceiling < u
    · exact .inr ⟨if_pos hlt, u, rfl, hlt⟩
    · refine .inl ⟨if_neg hlt, fun v hv => ?_⟩
      cases hv
      omega

theorem SiteRecord.suspectTest_of_bounded (h : ∀ u ∈ r.u growth, u ≤ ceiling) : r.suspectTest growth ceiling = r := by
  rcases SiteRecord.suspectTest_cases growth ceiling r with ⟨e, -⟩ | ⟨-, u, hu, hlt⟩
  · exact e
  · exact absurd (h u hu) (by omega)

/-- After the SUSPECT test u is at most U wherever it is present. -/
theorem SiteRecord.suspectTest_bounded (growth ceiling : Nat) (r : SiteRecord) :
    ∀ u ∈ (r.suspectTest growth ceiling).u growth, u ≤ ceiling := by
  rcases SiteRecord.suspectTest_cases growth ceiling r with ⟨e, h⟩ | ⟨e, -⟩ <;> rw [e]
  · exact h
  · intro u hu
    cases hu

/-- A record with a u is in ALIGNED or HOLDOVER (R16). -/
theorem SiteRecord.state_of_u {u : Nat} (h : r.u growth = some u) : r.state = .aligned ∨ r.state = .holdover := by
  unfold SiteRecord.u at h
  split at h
  next hp => exact .inl (congrArg SitePhase.state hp)
  next hp => exact .inr (congrArg SitePhase.state hp)
  · cases h

@[simp] theorem SiteRecord.suspectTest_notice : (r.suspectTest growth ceiling).notice = r.notice := by
  rcases SiteRecord.suspectTest_cases growth ceiling r with ⟨e, -⟩ | ⟨e, -⟩ <;> exact (congrArg SiteRecord.notice e).trans rfl

@[simp] theorem SiteRecord.suspectTest_link : (r.suspectTest growth ceiling).link = r.link := by
  rcases SiteRecord.suspectTest_cases growth ceiling r with ⟨e, -⟩ | ⟨e, -⟩ <;> exact (congrArg SiteRecord.link e).trans rfl

@[simp] theorem SiteRecord.suspectTest_est : (r.suspectTest growth ceiling).est = r.est := by
  rcases SiteRecord.suspectTest_cases growth ceiling r with ⟨e, -⟩ | ⟨e, -⟩ <;> exact (congrArg SiteRecord.est e).trans rfl

@[simp] theorem SiteRecord.suspectTest_drift : (r.suspectTest growth ceiling).drift = r.drift := by
  rcases SiteRecord.suspectTest_cases growth ceiling r with ⟨e, -⟩ | ⟨e, -⟩ <;> exact (congrArg SiteRecord.drift e).trans rfl

/-- The SUSPECT test takes a site into no other state than SUSPECT, and only out of ALIGNED and HOLDOVER. -/
theorem SiteRecord.suspectTest_state (growth ceiling : Nat) (r : SiteRecord) :
    (r.suspectTest growth ceiling).state = r.state
      ∨ ((r.state = .aligned ∨ r.state = .holdover) ∧ (r.suspectTest growth ceiling).state = .suspect) := by
  rcases SiteRecord.suspectTest_cases growth ceiling r with ⟨e, -⟩ | ⟨e, u, hu, -⟩ <;> rw [e]
  · exact .inl rfl
  · exact .inr ⟨SiteRecord.state_of_u hu, rfl⟩

theorem SiteRecord.suspectTest_probed (h : r.phase.probed = true) : (r.suspectTest growth ceiling).phase.probed = true := by
  rcases SiteRecord.suspectTest_cases growth ceiling r with ⟨e, -⟩ | ⟨e, -⟩ <;> rw [e]
  · exact h
  · rfl

end

/-! ### A sample (R46–R56) -/

theorem length_pushBounded_le {capacity : Nat} {l : List Nat} (y : Nat) (h : l.length ≤ capacity) :
    (pushBounded capacity l y).length ≤ capacity := by
  unfold pushBounded
  split <;> simp only [List.length_drop, List.length_append, List.length_singleton] at * <;> omega

theorem mem_pushBounded {capacity : Nat} {l : List Nat} {y x : Nat} (h : x ∈ pushBounded capacity l y) : x ∈ l ∨ x = y := by
  have hx : x ∈ l ++ [y] := by
    unfold pushBounded at h
    split at h
    · exact List.mem_of_mem_drop h
    · exact h
  simpa using hx

theorem pushBounded_inRange {capacity : Nat} {l : List Nat} {y : Nat} (h : samplesInRange capacity l) (hy : y ≤ 16777215) :
    samplesInRange capacity (pushBounded capacity l y) := by
  obtain ⟨hlen, hmem⟩ := h
  refine ⟨length_pushBounded_le y hlen, fun x hx => ?_⟩
  rcases mem_pushBounded hx with hx | rfl
  · exact hmem x hx
  · exact hy

/-- The phase in which a sample that completes nothing leaves a site: the same state with a list in range (R46, R54). -/
inductive SitePhase.Waits (y : Nat) : SitePhase → SitePhase → Prop
  | probing (l : List Nat) : Waits y (.probing l) (.probing (pushBounded 4 l y))
  | suspect (l : List Nat) : Waits y (.suspect l) (.suspect (pushBounded 4 l y))
  | aligned (l : List Nat) : Waits y (.aligned l) (.aligned (pushBounded 3 l y))
  | holdover (l : List Nat) (h : Nat) : Waits y (.holdover l h) (.holdover (pushBounded 3 l y) h)

/-- A record that waits for further samples. -/
def SiteRecord.waiting (ph : SitePhase) (r : SiteRecord) : SiteRecord := { r with phase := ph, m := 0 }

/-- A record that is seated at an estimate, in ALIGNED before the SUSPECT test (R48, R53, R56). -/
def SiteRecord.seated (threshold : Nat) (e : Estimate) (s : Nat) (r : SiteRecord) : SiteRecord :=
  { r with phase := .aligned [], est := some e, s := s, m := 0, drift := driftRule threshold (some e) }

/-- What a sample makes of a record: it waits, or it is seated, and the SUSPECT test follows (R66). -/
inductive Sampled (p : Params) (y : Nat) (r : SiteRecord) : SiteRecord → Prop
  | waits (ph : SitePhase) (h : r.phase.Waits y ph) : Sampled p y r ((r.waiting ph).suspectTest p.growth p.ceiling)
  | seats (e : Estimate) (s : Nat) (hs : s ≤ 65535)
    (he : r.inRange → y ≤ 16777215 → e.d ≤ 16777215 ∧ e.reported ≤ 16777215) :
    Sampled p y r ((r.seated p.driftThreshold e s).suspectTest p.growth p.ceiling)

theorem sum_le_of_forall_le {l : List Nat} {b : Nat} (h : ∀ x ∈ l, x ≤ b) : l.sum ≤ l.length * b := by
  simpa using List.sum_le_card_nsmul l b h

section
variable {p : Params} {y : Nat} {r : SiteRecord} {list : List Nat}

/-- An acquisition list with its four samples in range has its mean in range (R48). -/
theorem acquire_sampled (again : List Nat → SitePhase) (hw : r.phase.Waits y (again (pushBounded 4 list y)))
    (hu : ∀ l, (r.waiting (again l)).u p.growth = none) (hr : r.inRange → samplesInRange 4 list) :
    Sampled p y r (acquire p again list y r).record := by
  simp only [acquire]
  split
  next hdone =>
    refine Sampled.seats (r := r) ⟨_, _⟩ _ (min_le_left _ _) fun hin hy => ?_
    have hmem := (pushBounded_inRange (hr hin) hy).2
    have hsum := sum_le_of_forall_le hmem
    have hlen : (pushBounded 4 list y).length = 4 := hdone.1
    simp only [acquisitionCapacity]
    omega
  · have htest : (r.waiting (again (pushBounded 4 list y))).suspectTest p.growth p.ceiling
        = r.waiting (again (pushBounded 4 list y)) :=
      SiteRecord.suspectTest_of_bounded fun u h => by rw [hu] at h; cases h
    have hwait := Sampled.waits (p := p) _ hw
    rwa [htest] at hwait

theorem movedEstimate_inRange {d : Nat} (hin : r.inRange) (hd : d ≤ 16777215) :
    (r.est.map Estimate.reported).getD d ≤ 16777215 := by
  obtain ⟨-, -, -, hest, -⟩ := hin
  cases he : r.est with
  | none => exact hd
  | some e => exact (hest e he).2

theorem SiteRecord.d_inRange (hin : r.inRange) : r.d ≤ 16777215 := by
  obtain ⟨-, -, -, hest, -⟩ := hin
  unfold SiteRecord.d
  cases he : r.est with
  | none => simp
  | some e => exact (hest e he).1

theorem acceptSample_sampled : Sampled p y r (acceptSample p y r).record := by
  refine Sampled.seats (r := r) ⟨_, _⟩ _ (min_le_left _ _) fun hin hy => ?_
  have hd := SiteRecord.d_inRange hin
  obtain ⟨-, hhigh⟩ := stepDelay_between r.d y
  have hstep : stepDelay r.d y ≤ 16777215 := by omega
  exact ⟨hstep, movedEstimate_inRange hin hstep⟩

theorem jumpCandidate_sampled (again : List Nat → SitePhase) (hw : r.phase.Waits y (again (pushBounded 3 list y)))
    (hr : r.inRange → samplesInRange 3 list) : Sampled p y r (jumpCandidate p again list y r).record := by
  simp only [jumpCandidate]
  split
  next hdone =>
    refine Sampled.seats (r := r) ⟨_, _⟩ _ (min_le_left _ _) fun hin hy => ?_
    have hmem := (pushBounded_inRange (hr hin) hy).2
    have hsum := sum_le_of_forall_le hmem
    have hlen : (pushBounded 3 list y).length = 3 := hdone.1
    have hd : ((pushBounded jumpCapacity list y).sum + 1) / 3 ≤ 16777215 := by
      simp only [jumpCapacity]
      omega
    exact ⟨hd, movedEstimate_inRange hin hd⟩
  · exact Sampled.waits _ hw

theorem trackSample_sampled (again : List Nat → SitePhase) (hw : r.phase.Waits y (again (pushBounded 3 list y)))
    (hr : r.inRange → samplesInRange 3 list) : Sampled p y r (trackSample p again list y r).record := by
  unfold trackSample
  split
  · exact acceptSample_sampled
  · exact jumpCandidate_sampled again hw hr

/-- A sample at a probed record, by its state (R67). -/
theorem applySample_sampled (hp : r.phase.probed = true) : Sampled p y r (applySample p y r).record := by
  unfold applySample
  cases h : r.phase with
  | probing l =>
    refine acquire_sampled _ (h ▸ .probing l) (fun _ => rfl) fun hin => ?_
    have hphase := hin.1
    rwa [h] at hphase
  | suspect l =>
    refine acquire_sampled _ (h ▸ .suspect l) (fun _ => rfl) fun hin => ?_
    have hphase := hin.1
    rwa [h] at hphase
  | aligned l =>
    refine trackSample_sampled _ (h ▸ .aligned l) fun hin => ?_
    have hphase := hin.1
    rw [h] at hphase
    exact hphase.1
  | holdover l n =>
    refine trackSample_sampled _ (h ▸ .holdover l n) fun hin => ?_
    have hphase := hin.1
    rw [h] at hphase
    exact hphase.1
  | vacant | suspended held | retiring =>
    rw [h] at hp
    cases hp

end

/-! ### A miss (R49, R57, R58) -/

/-- The phase in which a miss leaves a site, m being the count with this miss. -/
inductive SitePhase.Misses (m : Nat) : SitePhase → SitePhase → Prop
  | probing (l : List Nat) : Misses m (.probing l) (.probing l)
  | suspect (l : List Nat) : Misses m (.suspect l) (.suspect l)
  | aligned (l : List Nat) (h : m ≤ 2) : Misses m (.aligned l) (.aligned l)
  | lost (l : List Nat) (h : 3 ≤ m) : Misses m (.aligned l) (.holdover l 0)
  | holdover (l : List Nat) (h : Nat) : Misses m (.holdover l h) (.holdover l (min maxCount (h + 1)))

/-- A miss counts, changes the phase, and is followed by the SUSPECT test. -/
theorem applyMiss_misses (p : Params) {r : SiteRecord} (hp : r.phase.probed = true) :
    ∃ ph, r.phase.Misses (min 3 (r.m + 1)) ph ∧
      applyMiss p r = SiteRecord.suspectTest p.growth p.ceiling { r with phase := ph, m := min 3 (r.m + 1) } := by
  cases h : r.phase with
  | probing l =>
    refine ⟨_, .probing l, ?_⟩
    rw [SiteRecord.suspectTest_of_bounded fun u hu => by cases hu]
    simp only [applyMiss, h]
  | suspect l =>
    refine ⟨_, .suspect l, ?_⟩
    rw [SiteRecord.suspectTest_of_bounded fun u hu => by cases hu]
    simp only [applyMiss, h]
  | aligned l =>
    by_cases hm : 3 ≤ min 3 (r.m + 1)
    · exact ⟨_, .lost l hm, by simp only [applyMiss, h, if_pos hm]⟩
    · exact ⟨_, .aligned l (by omega), by simp only [applyMiss, h, if_neg hm]⟩
  | holdover l n => exact ⟨_, .holdover l n, by simp only [applyMiss, h]⟩
  | vacant | suspended held | retiring =>
    rw [h] at hp
    cases hp

theorem SitePhase.Misses.probed {m : Nat} {ph ph' : SitePhase} (h : SitePhase.Misses m ph ph') : ph'.probed = true := by
  cases h <;> rfl

theorem SitePhase.Waits.probed {y : Nat} {ph ph' : SitePhase} (h : SitePhase.Waits y ph ph') : ph'.probed = true := by
  cases h <;> rfl

/-! ### What a probe result leaves of a record -/

section
variable {p : Params} {y : Nat} {r r' : SiteRecord}

theorem Sampled.probed (h : Sampled p y r r') : r'.phase.probed = true := by
  cases h with
  | waits ph hw => exact SiteRecord.suspectTest_probed hw.probed
  | seats e s => exact SiteRecord.suspectTest_probed rfl

theorem Sampled.notice (h : Sampled p y r r') : r'.notice = r.notice := by
  cases h <;> exact SiteRecord.suspectTest_notice

theorem Sampled.link (h : Sampled p y r r') : r'.link = r.link := by
  cases h <;> exact SiteRecord.suspectTest_link

theorem applyMiss_probed (hp : r.phase.probed = true) : (applyMiss p r).phase.probed = true := by
  obtain ⟨ph, hph, e⟩ := applyMiss_misses p hp
  rw [e]
  exact SiteRecord.suspectTest_probed hph.probed

theorem applyMiss_notice (hp : r.phase.probed = true) : (applyMiss p r).notice = r.notice := by
  obtain ⟨ph, -, e⟩ := applyMiss_misses p hp
  rw [e]
  exact SiteRecord.suspectTest_notice

theorem applyMiss_link (hp : r.phase.probed = true) : (applyMiss p r).link = r.link := by
  obtain ⟨ph, -, e⟩ := applyMiss_misses p hp
  rw [e]
  exact SiteRecord.suspectTest_link

/-- A probed site is neither VACANT nor RETIRING nor SUSPENDED (R17). -/
theorem SiteRecord.in_service_of_probed (h : r.phase.probed = true) :
    r.state ≠ .vacant ∧ r.state ≠ .retiring ∧ r.state ≠ .suspended := by
  rcases SiteRecord.state_of_probed h with e | e | e | e <;> rw [e] <;> decide

end

/-! ### Amending and notices -/

section
variable {x : Amendment} {r : SiteRecord} {l : Link}

/-- A record without a link is not amended. -/
theorem SiteRecord.amended_of_no_link (x : Amendment) (h : r.link = none) : r.amended x = r := by
  simp only [SiteRecord.amended, h]

theorem SiteRecord.amended_of_link (x : Amendment) (h : r.link = some l) :
    r.amended x =
      if l.movedBy x then { r with link := some (l.amended x), phase := .probing [], m := 0 }
      else { r with link := some (l.amended x) } := by
  simp only [SiteRecord.amended, h]
  rfl

/-- An amendment leaves the record's state or sends it to PROBING (R29, R30). -/
theorem SiteRecord.amended_phase (x : Amendment) (r : SiteRecord) :
    (r.amended x).phase = r.phase ∨ (r.amended x).phase = .probing [] := by
  cases h : r.link with
  | none => exact .inl (by rw [SiteRecord.amended_of_no_link x h])
  | some l =>
    rw [SiteRecord.amended_of_link x h]
    split
    · exact .inr rfl
    · exact .inl rfl

theorem SiteRecord.amended_notice (x : Amendment) (r : SiteRecord) : (r.amended x).notice = r.notice := by
  cases h : r.link with
  | none => rw [SiteRecord.amended_of_no_link x h]
  | some l =>
    rw [SiteRecord.amended_of_link x h]
    split <;> rfl

end

/-- The ways a TAKEN notice acts on a record: not at all, or by an entry into PROBING or SUSPENDED, or by setting site-held
(R99–R102). -/
theorem SiteRecord.noticeEffect_cases (kind : NoticeKind) (r : SiteRecord) :
    r.noticeEffect kind = r
      ∨ (r.noticeEffect kind = r.enterProbing ∧ (r.phase.probed = true ∨ r.state = .suspended))
      ∨ (r.noticeEffect kind = r.enterSuspended true ∧ r.phase.probed = true)
      ∨ (r.noticeEffect kind = { r with phase := .suspended true } ∧ r.state = .suspended) := by
  fun_cases SiteRecord.noticeEffect
  case case1 | case2 | case3 | case4 => exact .inr (.inl ⟨rfl, .inl (by simp_all [SitePhase.probed])⟩)
  case case5 | case6 | case7 | case8 => exact .inr (.inr (.inl ⟨rfl, by simp_all [SitePhase.probed]⟩))
  case case9 => exact .inr (.inr (.inr ⟨rfl, by simp_all [SiteRecord.state, SitePhase.state]⟩))
  case case10 => exact .inr (.inl ⟨rfl, .inr (by simp_all [SiteRecord.state, SitePhase.state])⟩)
  case case11 => exact .inl rfl

theorem SiteRecord.noticeEffect_notice (kind : NoticeKind) (r : SiteRecord) : (r.noticeEffect kind).notice = r.notice := by
  rcases r.noticeEffect_cases kind with e | ⟨e, -⟩ | ⟨e, -⟩ | ⟨e, -⟩ <;> exact (congrArg SiteRecord.notice e).trans rfl

theorem SiteRecord.noticeEffect_link (kind : NoticeKind) (r : SiteRecord) : (r.noticeEffect kind).link = r.link := by
  rcases r.noticeEffect_cases kind with e | ⟨e, -⟩ | ⟨e, -⟩ | ⟨e, -⟩ <;> exact (congrArg SiteRecord.link e).trans rfl

end Sys2Proof.Machine
end

section
/-! Every command that is no reset is a sequence of updates, each with what the laws need to know of it: the laws of sites,
notices, zones, slots and conditions are each proved once for every update. -/

namespace Sys2Proof.Machine

/-- Cause marks that agree but for CAL and STEP, with CAL still present exactly while it carries an outcome (R170). -/
def Attention.sameConditions (a b : Attention) : Prop :=
  (∀ c : Cause, c ≠ .cal → c ≠ .step → b.present.has c = a.present.has c)
    ∧ (a.present.cal = a.calOutcome.isSome → b.present.cal = b.calOutcome.isSome)

/-- A slot keeps its batch's tag and posting number, and its hold lists name no site but those they named and those of the
latest plan (R156). -/
def slotKept (latest : Option Plan) (o o' : Option Batch) : Prop :=
  o'.map Batch.tag = o.map Batch.tag ∧ o'.map Batch.posting = o.map Batch.posting
    ∧ ∀ j, batchNames j o' = true → batchNames j o = true ∨ planExcludes latest j = false

/-- The updates that commands other than resets are made of. -/
inductive Update (s : State) : State → Prop
  | time (x : TimeBase) : Update s { s with time := x }
  | port (p : CommandPort) (h : p.op = s.port.op) : Update s { s with port := p }
  | resetUnit (r : ResetUnit) : Update s { s with resetUnit := r }
  | choices (n : Nat) : Update s { s with choices := n }
  | trunks (x : Table Trunk 8) : Update s { s with trunks := x }
  | solver (v : Solver) (h : v.latest = s.solver.latest) : Update s { s with solver := v }
  | published (n : Snapshot) : Update s (s.publish n)
  | attention (a : Attention) (h : s.attention.sameConditions a) : Update s { s with attention := a }
  | params (p : Params) (hg : p.growth = s.config.growth) (hu : p.ceiling = s.config.ceiling)
    (hd : p.driftThreshold = s.config.driftThreshold) : Update s (s.setParams p)
  | growth (g : Nat) :
    Update s ((s.setParams { s.config with growth := g }).installSites s.config.growth
      (s.sites.mapIdx fun _ r => r.suspectTest g s.config.ceiling))
  | ceiling (u : Nat) :
    Update s ((s.setParams { s.config with ceiling := u }).mapSites fun _ r => r.suspectTest s.config.growth u)
  | driftThreshold (d : Nat) : Update s ((s.setParams { s.config with driftThreshold := d }).mapSites fun _ r => r.redrift d)
  | zone (z : ZoneNo) (b : Option ZoneBody)
    (h : ∀ x ∈ b, x.lawful ∧ ∀ m ∈ x.members, (s.sites.get m.1).state ≠ .vacant ∧ (s.sites.get m.1).state ≠ .retiring) :
    Update s (s.putZone z b)
  | site (i : SiteNo) (r : SiteRecord) (hc : ∀ j, SiteChange s (s.putSite i r) j)
    (hn : r.notice = (s.sites.get i).notice ∨ (s.sites.get i).state = .vacant ∧ r.notice = none) (hv : r.state ≠ .vacant)
    (hr : r.state = .retiring → (s.sites.get i).state = .retiring) : Update s (s.putSite i r)
  | retired (i : SiteNo) (hv : (s.sites.get i).state ≠ .vacant) :
    Update s ((s.putSite i (s.sites.get i).enterRetiring).removeFromZones i)
  | noticeTaken (i : SiteNo) (rest : List SiteNo) (h : s.noticeOrder = i :: rest) :
    Update s ((s.putSite i { s.sites.get i with notice := none }).setNoticeOrder rest)
  | noticed (i : SiteNo) (n : Notice) (hs : (s.sites.get i).state.takesNotices = true) (hn : (s.sites.get i).notice = none) :
    Update s (s.storeNotice i n)
  | reprobed (k : TrunkNo) : Update s (s.mapSites fun _ r => r.trunkDisabled k)
  | retireTest : Update s s.retireTest
  | slots (t : Table (Option Batch) 8) (h : ∀ i, slotKept s.solver.latest (s.slots.get i) (t.get i)) :
    Update s (s.installSlots t)
  | posted (i : SlotNo) (b : Batch) (hi : s.slots.get i = none) (ht : ∀ j, ∀ c ∈ s.slots.get j, c.tag ≠ b.tag)
    (hp : b.posting = s.slots.count Option.isSome) (hb : b.phase = .pending) : Update s (s.putSlot i (some b))
  | freed (i : SlotNo) : Update s (s.freeSlot i)

/-- Some updates, one after the other. -/
abbrev Updates : State → State → Prop := Relation.ReflTransGen Update

theorem Updates.refl (s : State) : Updates s s := Relation.ReflTransGen.refl

/-- What every update keeps, every sequence of updates keeps. -/
theorem Updates.keeps {P : State → Prop} (hP : ∀ s t, Update s t → P s → P t) {s t : State} (h : Updates s t) (hs : P s) :
    P t := by
  induction h with
  | refl => exact hs
  | tail _ hu ih => exact hP _ _ hu ih

theorem Updates.foldl {α : Type} (f : State → α → State) (h : ∀ s a, Updates s (f s a)) (l : List α) (s : State) :
    Updates s (l.foldl f s) := by
  induction l generalizing s with
  | nil => exact .refl s
  | cons a l ih => exact (h s a).trans (ih (f s a))

/-! ### The operations -/

section
variable (s : State)

theorem State.respond_updates (a : Answer) : Update s (s.respond a) := .port _ rfl

theorem State.putTrunk_updates (k : TrunkNo) (tr : Trunk) : Update s (s.putTrunk k tr) := .trunks _

theorem State.queueFrames_updates (i : SlotNo) (l : List HoldList) : Update s (s.queueFrames i l) := .trunks _

theorem State.markStale_updates : Update s s.markStale := .solver _ rfl

theorem State.markStaleIf_updates (b : Bool) : Update s (s.markStaleIf b) := .solver _ rfl

theorem State.startSolve_updates : Update s s.startSolve := .solver _ rfl

theorem State.latchCal_updates (o : CalOutcome) : Update s (s.latchCal o) :=
  .attention _ ⟨fun c hc _ => by cases c <;> first | rfl | exact absurd rfl hc, fun _ => rfl⟩

theorem State.latchStep_updates (b : Bool) : Update s (s.latchStep b) :=
  .attention _ ⟨fun c _ hs => by cases c <;> first | rfl | exact absurd rfl hs, id⟩

end

/-- A batch that keeps tag, posting number and named sites may take another phase. -/
theorem State.putSlot_updates {i : SlotNo} {b b' : Batch} {s : State} (hb : s.slots.get i = some b) (ht : b'.tag = b.tag)
    (hp : b'.posting = b.posting)
    (hn : ∀ j, batchNames j (some b') = true → batchNames j (some b) = true ∨ planExcludes s.solver.latest j = false) :
    Update s (s.putSlot i (some b')) := by
  refine .slots _ fun j => ?_
  by_cases e : j = i
  · subst e
    rw [Table.get_set_self, hb]
    exact ⟨congrArg some ht, congrArg some hp, hn⟩
  · rw [Table.get_set_ne _ e]
    exact ⟨rfl, rfl, fun _ h => .inl h⟩

/-- A batch that enters DONE names no site any more. -/
theorem State.putSlot_done_updates {i : SlotNo} {b : Batch} {s : State} (x : Dispatched) (hb : s.slots.get i = some b) :
    Update s (s.putSlot i (some { b with phase := .done x })) := by
  refine State.putSlot_updates hb rfl rfl fun j h => ?_
  have hnames : batchNames j (some { b with phase := .done x }) = false := rfl
  rw [hnames] at h
  cases h

/-- The hold lists of a dispatch name only sites that the plan launches (R156). -/
theorem State.holdListsFor_launch {s : State} {p : Plan} {j : SiteNo} (h : listsName j (s.holdListsFor p) = true) :
    ∃ q, p.sites.get j = .launch q := by
  simp only [listsName, List.any_eq_true, decide_eq_true_eq] at h
  obtain ⟨l, hl, e, he, rfl⟩ := h
  simp only [State.holdListsFor, List.mem_filterMap, Option.ite_none_right_eq_some, Option.some.injEq] at hl
  obtain ⟨k, -, -, rfl⟩ := hl
  simp only [Plan.launchEntries, List.mem_filterMap] at he
  obtain ⟨i, -, hi⟩ := he
  split at hi
  next q hq =>
    split at hi
    · cases hi
      exact ⟨q, hq⟩
    · cases hi
  all_goals cases hi

theorem State.dispatch_updates (i : SlotNo) (s : State) : Updates s (s.dispatch i) := by
  unfold State.dispatch
  split
  next b hb =>
    split
    · exact .single (State.putSlot_done_updates _ hb)
    next p hp =>
      dsimp only
      split
      · exact .single (State.putSlot_done_updates _ hb)
      · refine Relation.ReflTransGen.tail ?_ (State.queueFrames_updates _ i _)
        refine .single (State.putSlot_updates hb rfl rfl fun j h => .inr ?_)
        obtain ⟨q, hq⟩ := State.holdListsFor_launch h
        simp only [planExcludes, hp, hq]
  · exact .refl s

theorem State.finish_updates {i : SlotNo} {b : Batch} {s : State} (x : Dispatched) (hb : s.slots.get i = some b) :
    Updates s (s.finish i b x) :=
  .tail (.single (State.putSlot_done_updates x hb)) .retireTest

theorem State.frameEnded_updates (k : TrunkNo) (sent : Bool) (i : SlotNo) (s : State) : Updates s (s.frameEnded k sent i) := by
  unfold State.frameEnded
  split
  next b hb =>
    split
    next x n hx =>
      -- the report changes, and no hold list
      have hnames (ph : BatchPhase) (y : Dispatched) (hy : y.holdLists = x.holdLists)
          (hph : (∃ m, ph = .dispatching y m) ∨ ∃ d, ph = .inFlight y d) (j : SiteNo)
          (h : batchNames j (some { b with phase := ph }) = true) :
          batchNames j (some b) = true ∨ planExcludes s.solver.latest j = false := by
        refine .inl ?_
        simp only [batchNames, hx, ← hy]
        rcases hph with ⟨m, rfl⟩ | ⟨d, rfl⟩ <;> exact h
      dsimp only
      generalize hy : ({ x with report := _ } : Dispatched) = y
      have hlists : y.holdLists = x.holdLists := hy ▸ rfl
      split
      · simp only [State.enterInFlight]
        split
        · exact .single (State.putSlot_updates hb rfl rfl (hnames (.inFlight y _) y hlists (.inr ⟨_, rfl⟩)))
        · exact State.finish_updates _ hb
      · exact .single (State.putSlot_updates hb rfl rfl (hnames (.dispatching y (n - 1)) y hlists (.inl ⟨_, rfl⟩)))
    all_goals exact .refl s
  · exact .refl s

theorem State.applyHorizon_updates (h : Nat) (s : State) : Updates s (s.applyHorizon h) := by
  unfold State.applyHorizon
  refine Relation.ReflTransGen.trans (.single (.slots _ fun i => ?_)) (Updates.foldl _ (fun t i => State.dispatch_updates i t) _ _)
  rw [Table.get_mapIdx]
  cases hb : s.slots.get i with
  | none => exact ⟨rfl, rfl, fun _ h => .inl h⟩
  | some b =>
    simp only [Option.map_some]
    split
    next hph =>
      unfold rehorizon
      dsimp only
      split
      · exact ⟨rfl, rfl, fun _ h => .inl h⟩
      · exact ⟨rfl, rfl, fun _ h => .inl h⟩
    · exact ⟨rfl, rfl, fun _ h => .inl h⟩

theorem State.disableTrunk_updates (k : TrunkNo) (s : State) : Updates s (s.disableTrunk k) :=
  .tail (.tail (.trans (.single (State.putTrunk_updates s k _)) (Updates.foldl _ (fun t i => State.frameEnded_updates k false i t) _ _))
    (.reprobed k)) (State.markStale_updates _)

theorem State.configureTrunk_updates (k : TrunkNo) (e : Bool) (r : BitRate) (g : Granularity) (d : Nat) (s : State) :
    Updates s (s.configureTrunk k e r g d) := by
  have hput : Updates s (s.putTrunk k ((s.trunks.get k).configured r g d)) := .single (State.putTrunk_updates ..)
  unfold State.configureTrunk
  dsimp only
  split
  · exact .tail (.tail hput (State.putTrunk_updates ..)) (State.markStale_updates _)
  · exact hput.trans (State.disableTrunk_updates ..)
  · exact hput
  · exact hput

theorem State.completeSolve_updates (b : Bool) (n : Snapshot) (s : State) : Updates s (s.completeSolve b n) := by
  have hpublished : Updates s (s.publish n) := .single (.published n)
  rcases State.completeSolve_cases b n s with ⟨-, e⟩ | ⟨-, e⟩ <;> rw [e]
  · exact .tail (.tail hpublished (State.startSolve_updates _)) .retireTest
  · exact .tail hpublished .retireTest

/-! ### One site record -/

section
variable {s : State} {i : SiteNo}

/-- A change of one record, as what the updates say of it. -/
theorem State.putSite_updates {r : SiteRecord} (hc : otherSitesSame i s (s.putSite i r) → (s.putSite i r).sites.get i = r →
      SiteChange s (s.putSite i r) i)
    (hn : r.notice = (s.sites.get i).notice) (hv : r.state ≠ .vacant)
    (hr : r.state = .retiring → (s.sites.get i).state = .retiring) : Update s (s.putSite i r) :=
  .site i r (SiteChange.of_put rfl hc) (.inl hn) hv hr

theorem State.timeoutResult_updates (hp : (s.sites.get i).phase.probed = true) : Update s (s.timeoutResult i) := by
  obtain ⟨hv, hr, -⟩ := SiteRecord.in_service_of_probed (applyMiss_probed (p := s.config) hp)
  exact State.putSite_updates (fun _ h => .missed hp h) (applyMiss_notice hp) hv fun h => absurd h hr

/-- A plausible sample is at most 16,777,215 (R44). -/
theorem sample?_le {loop turnaround : Nat} {asym : Int} {y : Nat} (h : sample? loop turnaround asym = some y) :
    y ≤ 16777215 := by
  unfold sample? at h
  simp only [Option.ite_none_left_eq_some, Option.some.injEq, maxDelay] at h
  omega

theorem State.echoResult_updates (loop turnaround : Nat) (hp : (s.sites.get i).phase.probed = true) :
    Updates s (s.echoResult i loop turnaround) := by
  unfold State.echoResult
  dsimp only
  split
  · exact .single (State.timeoutResult_updates hp)
  next y hy =>
    have hs := applySample_sampled (p := s.config) (y := y) hp
    obtain ⟨hv, hr, -⟩ := SiteRecord.in_service_of_probed hs.probed
    have hput := State.putSite_updates (fun _ h => .sampled y (sample?_le hy) hp h) hs.notice hv fun h => absurd h hr
    exact .tail (.tail (.single hput) (State.markStaleIf_updates ..)) (State.latchStep_updates ..)

/-- A site that a probe result may reach is probed (R17). -/
theorem State.probed_of_stillThere {o : Outstanding} (h : s.stillThere o = true) :
    (s.sites.get o.site).phase.probed = true := by
  simp only [State.stillThere, State.probeEligible, Bool.and_eq_true] at h
  obtain ⟨h, -⟩ := h
  split at h
  · simp only [Bool.and_eq_true] at h
    exact h.1
  · cases h

theorem State.matchEcho_updates (k : TrunkNo) (a q : Byte) (v : BitVec 16) (x : Instant) (s : State) :
    Updates s (s.matchEcho k a q v x) := by
  have hput (tr : Trunk) : Updates s (s.putTrunk k tr) := .single (State.putTrunk_updates ..)
  unfold State.matchEcho
  dsimp only
  split
  · split
    · split
      next hthere => exact (hput _).trans (State.echoResult_updates _ _ (State.probed_of_stillThere hthere))
      · exact hput _
    · exact hput _
  · exact hput _

/-- The site that a notice finds stands where the notice says and takes notices (R95). -/
theorem State.noticeSite?_some {k : TrunkNo} {a : Byte} (h : s.noticeSite? k a = some i) :
    (s.sites.get i).isAt k a.toNat = true ∧ (s.sites.get i).state.takesNotices = true := by
  simpa using List.find?_some h

theorem State.applyNotice_updates (k : TrunkNo) (a q : Byte) (d : BitVec 16) (x : Instant) (s : State) :
    Updates s (s.applyNotice k a q d x) := by
  unfold State.applyNotice
  split
  next i _ hi _ =>
    split
    · exact .refl s
    next hn => exact .single (.noticed i _ (State.noticeSite?_some hi).2 (by simpa using hn))
  · exact .refl s

end

/-! ### The blocks of host commands -/

section
variable (s : State)

theorem horizonBlock_updates (value : BitVec 32) : Updates s (horizonBlock value s).2 := by
  simp only [horizonBlock]
  split
  · exact .refl s
  · refine .trans (.tail (.single ?_) (State.markStale_updates _)) (State.applyHorizon_updates _ _)
    exact .params { s.config with horizon := clamp 10000 16000000 value.toNat } rfl rfl rfl

theorem probePeriodBlock_updates (value : BitVec 32) : Updates s (probePeriodBlock value s).2 := by
  simp only [probePeriodBlock]
  split
  · exact .single (.params _ rfl rfl rfl)
  · exact .refl s

theorem probeTimeoutBlock_updates (value : BitVec 32) : Updates s (probeTimeoutBlock value s).2 := by
  simp only [probeTimeoutBlock]
  split
  · exact .single (.params _ rfl rfl rfl)
  · exact .refl s

theorem growthBlock_updates (value : BitVec 32) : Updates s (growthBlock value s).2 := by
  simp only [growthBlock]
  split
  · exact .refl s
  · exact .single (.growth _)

theorem ceilingBlock_updates (value : BitVec 32) : Updates s (ceilingBlock value s).2 := by
  simp only [ceilingBlock]
  split
  · exact .refl s
  · exact .single (.ceiling _)

theorem driftBlock_updates (value : BitVec 32) : Updates s (driftBlock value s).2 := by
  simp only [driftBlock]
  split
  · exact .refl s
  · exact .single (.driftThreshold _)

theorem maskBlock_updates (value : BitVec 32) : Updates s (maskBlock value s).2 :=
  .single (.attention _ ⟨fun _ _ _ => rfl, id⟩)

theorem ackBlock_updates (causes : BitVec 16) : Updates s (ackBlock causes s).2 := by
  simp only [ackBlock]
  split
  · exact .refl s
  · refine .single (.attention _ ⟨fun c hc hs => ?_, fun h => ?_⟩)
    · cases c
      case cal => exact absurd rfl hc
      case step => exact absurd rfl hs
      all_goals rfl
    · simp only [Attention.acknowledge, h]
      cases (CauseSet.ofNat causes.toNat).cal <;> simp

theorem trunkSetBlock_updates (trunk enable gran : Byte) (rate benchDelay : BitVec 24) :
    Updates s (trunkSetBlock trunk enable rate gran benchDelay s).2 := by
  unfold trunkSetBlock
  split
  · exact .refl s
  · split
    · dsimp only
      split
      · exact .refl s
      · exact State.configureTrunk_updates ..
    · exact .refl s

theorem calStartBlock_updates (e : BitVec 24) : Updates s (calStartBlock e s).2 := by
  by_cases h : ∃ m, s.time.cal = .measuring m
  · obtain ⟨m, hm⟩ := h
    rw [calStartBlock_of_measuring hm]
    exact .refl s
  · rw [calStartBlock_of_not_measuring fun m hm => h ⟨m, hm⟩]
    split
    · exact .refl s
    · exact .tail (.single (.time _)) (State.markStale_updates _)

theorem address?_some {b : Byte} {a : Nat} (h : address? b = some a) : a = b.toNat ∧ 1 ≤ a ∧ a ≤ 30 := by
  unfold address? at h
  split at h
  · cases h
    exact ⟨rfl, ‹_›⟩
  · cases h

theorem place?_some {trunk address : Byte} {p : TrunkNo × Nat} (h : place? trunk address = some p) : 1 ≤ p.2 ∧ p.2 ≤ 30 := by
  unfold place? at h
  split at h
  next ha =>
    cases h
    exact (address?_some ha).2
  · cases h

theorem trim?_some {v : BitVec 24} {w : Int} (h : trim? v = some w) : -100000 ≤ w ∧ w ≤ 100000 := by
  unfold trim? at h
  split at h
  · cases h
    assumption
  · cases h

end
end Sys2Proof.Machine
end

section
/-! Every command that is no reset is a sequence of updates, continued: the host commands on sites, zones and batches, the
events, and the statement for every command. -/

namespace Sys2Proof.Machine

/-! ### The host commands on sites -/

section
variable (s : State)

theorem siteAdmitBlock_updates (site trunk address : Byte) (asym : BitVec 16) (trim : BitVec 24) :
    Updates s (siteAdmitBlock site trunk address asym trim s).2 := by
  unfold siteAdmitBlock
  split
  next i k a w _ hp hw =>
    split
    · exact .refl s
    next hv =>
      split
      · exact .refl s
      next hheld =>
        have hvacant : (s.sites.get i).state = .vacant := by simpa using hv
        refine .single (.site i _ (SiteChange.of_put rfl fun ho h => ?_) (.inr ⟨hvacant, rfl⟩) nofun nofun)
        exact .admitted k a asym w (place?_some hp) (trim?_some hw) hvacant (by simpa using hheld) ho h
  · exact .refl s

/-- The values of an amendment that is not refused are in range (R28). -/
theorem amendment?_some {mask trunk address : Byte} {asym : BitVec 16} {trim : BitVec 24} {x : Amendment}
    (h : amendment? mask asym trim trunk address = some x) :
    (∀ v ∈ x.asym, -32768 ≤ v ∧ v ≤ 32767) ∧ (∀ w ∈ x.trim, -100000 ≤ w ∧ w ≤ 100000)
      ∧ ∀ p ∈ x.place, 1 ≤ p.2 ∧ p.2 ≤ 30 := by
  unfold amendment? at h
  split at h
  · cases h
  · split at h
    · cases h
    · cases h
      refine ⟨fun v hv => ?_, fun w hw => ?_, fun p hp => ?_⟩
      · simp only [Option.mem_def, Option.ite_none_right_eq_some, Option.some.injEq] at hv
        obtain ⟨-, rfl⟩ := hv
        have hlow := BitVec.le_toInt asym
        have hhigh := BitVec.toInt_lt (x := asym)
        norm_num at hlow hhigh
        omega
      · simp only [Option.mem_def, Option.ite_none_right_eq_some] at hw
        exact trim?_some hw.2
      · simp only [Option.mem_def, Option.ite_none_right_eq_some] at hp
        exact place?_some hp.2

theorem siteAmendBlock_updates (site mask trunk address : Byte) (asym : BitVec 16) (trim : BitVec 24) :
    Updates s (siteAmendBlock site mask asym trim trunk address s).2 := by
  unfold siteAmendBlock
  split
  · exact .refl s
  next i _ =>
    split
    · exact .refl s
    · split
      · exact .refl s
      next hv =>
        split
        · exact .refl s
        next hr =>
          split
          · exact .refl s
          next x hx =>
            split
            · exact .refl s
            next hc =>
              obtain ⟨hasym, htrim, hplace⟩ := amendment?_some hx
              have hstate : ((s.sites.get i).amended x).state = (s.sites.get i).state
                  ∨ ((s.sites.get i).amended x).state = .probing :=
                (SiteRecord.amended_phase x (s.sites.get i)).imp (congrArg SitePhase.state) (congrArg SitePhase.state)
              refine .single (State.putSite_updates (fun ho h => ?_) (SiteRecord.amended_notice x _) ?_ fun h => ?_)
              · exact .amended x hasym htrim hplace hv hr (by simpa using hc) ho h
              · rcases hstate with e | e <;> rw [e]
                · exact hv
                · decide
              · rcases hstate with e | e
                · rwa [e] at h
                · rw [e] at h
                  cases h

theorem siteReadBlock_updates (site acknowledge : Byte) : Updates s (siteReadBlock site acknowledge s).2 := by
  unfold siteReadBlock
  split
  · exact .refl s
  next i _ =>
    dsimp only
    split
    · exact .refl s
    next hv =>
      dsimp only
      split
      · exact .single (State.putSite_updates (fun _ h => .acknowledged h hv) rfl hv id)
      · exact .refl s

theorem siteSuspendBlock_updates (site : Byte) : Updates s (siteSuspendBlock site s).2 := by
  have hput {i : SiteNo} {x : SiteState} (hx : (s.sites.get i).state = x) (h : x ≠ .vacant) (h' : x ≠ .suspended)
      (h'' : x ≠ .retiring) : Updates s (s.putSite i ((s.sites.get i).enterSuspended false)) := by
    have hp : (s.sites.get i).phase.probed = true := by
      subst hx
      cases hph : (s.sites.get i).phase <;> simp_all [SiteRecord.state, SitePhase.state, SitePhase.probed]
    refine .single (State.putSite_updates (fun _ h => .suspended hp h) rfl ?_ fun h => ?_)
    · exact fun h => by cases h
    · cases h
  unfold siteSuspendBlock
  split
  · exact .refl s
  · split
    · exact .refl s
    · exact .refl s
    · exact .refl s
    all_goals
      next hx => exact hput hx (by decide) (by decide) (by decide)

theorem siteResumeBlock_updates (site : Byte) : Updates s (siteResumeBlock site s).2 := by
  unfold siteResumeBlock
  split
  · exact .refl s
  next i _ =>
    split
    · exact .refl s
    next hx =>
      split
      · exact .refl s
      · exact .single (State.putSite_updates (fun _ h => .resumed hx h) rfl nofun nofun)
    all_goals exact .refl s

theorem siteRetireBlock_updates (site : Byte) : Updates s (siteRetireBlock site s).2 := by
  unfold siteRetireBlock
  split
  · exact .refl s
  · split
    · exact .refl s
    · exact .refl s
    all_goals
      next hx => exact .single (.retired _ (by rw [hx]; decide))

theorem noticeTakeBlock_updates : Updates s (noticeTakeBlock s).2 := by
  unfold noticeTakeBlock
  split
  · exact .refl s
  next i rest h =>
    dsimp only
    split
    · exact .single (.noticeTaken i rest h)
    · exact .refl s

/-! ### The host commands on zones -/

theorem members?_some {l : List (Byte × BitVec 16)} {ms : List (SiteNo × Nat)} (h : members? l = some ms) :
    ms.length = l.length ∧ ∀ m ∈ ms, m.2 ≤ 65535 := by
  induction l generalizing ms with
  | nil =>
    cases h
    simp
  | cons x rest ih =>
    obtain ⟨b, p⟩ := x
    simp only [members?] at h
    split at h
    next i ms' _ hms' =>
      cases h
      obtain ⟨hlen, hall⟩ := ih hms'
      refine ⟨by simp [hlen], fun m hm => ?_⟩
      rcases List.mem_cons.mp hm with rfl | hm
      · have := p.isLt
        dsimp only
        omega
      · exact hall m hm
    · cases h

/-- A yield member that is not refused is a member or none (R110, test 6). -/
theorem yieldMember?_some {b : Byte} {ms : List (SiteNo × Nat)} {o : Option SiteNo} (h : yieldMember? b ms = some o) :
    ∀ y ∈ o, y ∈ ms.map Prod.fst := by
  intro y hy
  unfold yieldMember? at h
  split at h
  · cases h
    cases hy
  · split at h
    · split at h
      next hany =>
        cases h
        cases hy
        simpa using hany
      · cases h
    · cases h

/-- A body that passes the tests of R110 on its values is lawful (R108). -/
theorem zoneBody?_lawful {tolerance : BitVec 16} {y : Byte} {l : List (Byte × BitVec 16)} {b : ZoneBody}
    (h : zoneBody? tolerance y l = some b) : b.lawful := by
  unfold zoneBody? at h
  split at h
  · cases h
  next htests =>
    split at h
    · cases h
    next ms hms =>
      split at h
      · cases h
      next hdup =>
        split at h
        next o ho =>
          cases h
          obtain ⟨hlen, hall⟩ := members?_some hms
          have hnodup : (ms.map Prod.fst).Nodup := by simpa [hasDuplicate] using hdup
          have hpos : tolerance.toNat ≠ 0 := fun e => htests (.inr (.inr (BitVec.eq_of_toNat_eq e)))
          have hlt := tolerance.isLt
          exact ⟨hnodup, by dsimp only; omega, ⟨by dsimp only; omega, by dsimp only; omega⟩, hall, yieldMember?_some ho⟩
        · cases h

theorem zoneDefineBlock_updates (zone y : Byte) (tolerance : BitVec 16) (members : List (Byte × BitVec 16)) :
    Updates s (zoneDefineBlock zone tolerance y members s).2 := by
  unfold zoneDefineBlock
  split
  next z b _ hb =>
    split
    · exact .refl s
    next hrefused =>
      refine .single (.zone z _ fun x hx => ?_)
      cases hx
      refine ⟨zoneBody?_lawful hb, fun m hm => ?_⟩
      have hm' : (s.sites.get m.1).state.refusedAsMember = false := by
        simp only [Bool.not_eq_true, List.any_eq_false] at hrefused
        exact hrefused m hm
      constructor <;> intro e <;> rw [e] at hm' <;> cases hm'
  · exact .refl s

theorem zoneDeleteBlock_updates (zone : Byte) : Updates s (zoneDeleteBlock zone s).2 := by
  unfold zoneDeleteBlock
  split
  · exact .refl s
  · split
    · exact .single (.zone _ none nofun)
    · exact .refl s

/-! ### The host commands on batches -/

theorem State.slotOfTag?_none {s : State} {tag : Byte} (h : s.slotOfTag? tag = none) (i : SlotNo) :
    ∀ c ∈ s.slots.get i, c.tag ≠ tag := by
  intro c hc e
  have hi := List.find?_eq_none.mp h i (List.mem_finRange i)
  rw [hc] at hi
  simp [e] at hi

theorem State.freeSlot?_some {s : State} {i : SlotNo} (h : s.freeSlot? = some i) : s.slots.get i = none := by
  simpa using List.find?_some h

theorem State.acceptPost_updates {i : SlotNo} {tag : Byte} (hi : s.freeSlot? = some i) (ht : s.slotOfTag? tag = none)
    (requested : Instant) (payload : List Byte) :
    Updates s (s.acceptPost i (s.postedBatch tag requested payload)) := by
  have hposted : Updates s (s.putSlot i (some (s.postedBatch tag requested payload))) :=
    .single (.posted i _ (State.freeSlot?_some hi) (State.slotOfTag?_none ht) rfl rfl)
  unfold State.acceptPost
  dsimp only
  split
  · exact hposted.trans (State.dispatch_updates i _)
  · exact hposted

theorem batchPostBlock_updates (tag : Byte) (requested : Instant) (payload : List Byte) :
    Updates s (batchPostBlock tag requested payload s).2 := by
  unfold batchPostBlock
  split
  · exact .refl s
  next i hi =>
    split
    · exact .refl s
    next htag =>
      split
      · exact .refl s
      · split
        · exact .refl s
        · dsimp only
          split
          · exact .refl s
          · exact State.acceptPost_updates s hi (by simpa using htag) requested payload

theorem batchWithdrawBlock_updates (tag : Byte) : Updates s (batchWithdrawBlock tag s).2 := by
  unfold batchWithdrawBlock
  split
  · exact .refl s
  · split
    · exact .single (.freed _)
    · exact .refl s

theorem batchReportBlock_updates : Updates s (batchReportBlock s).2 := by
  unfold batchReportBlock
  split
  · exact .refl s
  · split
    · split
      · exact .single (.freed _)
      all_goals exact .refl s
    · exact .refl s

/-! ### The end of a command frame -/

theorem State.command_updates {s : State} (k : CommandClass) {block : State → Answer × State} (h : Updates s (block s).2) :
    Updates s (s.command k block) := by
  rcases State.command_cases k block s with ⟨-, e⟩ | ⟨code, -, -, e⟩ | ⟨-, -, e⟩
  · rw [e]
  · exact e ▸ .single (State.respond_updates s _)
  · exact e ▸ .tail h (State.respond_updates _ _)

end

/-! ### The events -/

/-- What the event answers is reached by updates. -/
def updatesTo (s : State) (o : Result) : Prop := ∀ t, o = .next t → Updates s t

theorem updatesTo_next {s t : State} (h : Updates s t) : updatesTo s (.next t) := by
  intro u hu
  cases hu
  exact h

theorem updatesTo_command {s : State} {k : CommandClass} {block : State → Answer × State} (h : Updates s (block s).2) :
    updatesTo s (.next (s.command k block)) :=
  updatesTo_next (State.command_updates k h)

section
variable (s : State)

theorem State.releaseIfFree_updates : Updates s s.releaseIfFree := by
  unfold State.releaseIfFree
  split
  · exact .refl s
  · exact .single (.port _ rfl)

theorem execResetRelease_updates : updatesTo s (execResetRelease s) := by
  refine updatesTo_next ?_
  split
  · exact .trans (.single (.resetUnit _)) (State.releaseIfFree_updates _)
  · exact .refl s

theorem execPowerOnResetRelease_updates : updatesTo s (execPowerOnResetRelease s) := by
  refine updatesTo_next ?_
  split
  · exact .trans (.single (.resetUnit _)) (State.releaseIfFree_updates _)
  · exact .refl s

theorem CommandPort.raiseRdy_op (now : Instant) (p : CommandPort) : (p.raiseRdy now).op = p.op := by
  unfold CommandPort.raiseRdy
  split
  · split <;> rfl
  · rfl

theorem execOscillatorTick_updates : updatesTo s (execOscillatorTick s) := by
  refine updatesTo_next ?_
  split
  · split
    · exact .single (.resetUnit _)
    · exact .refl s
  · have htick : Updates s { s with time := s.time.tick } := .single (.time _)
    exact .tail htick (.port (s.port.raiseRdy s.time.tick.now) (CommandPort.raiseRdy_op _ _))

theorem State.setCalPin_updates (b : Bool) : Update s (s.setCalPin b) := .time _

theorem execCalRisingEdge_updates : updatesTo s (execCalRisingEdge s) := by
  refine updatesTo_next ?_
  split
  · exact .refl s
  · split
    · split
      · exact .single (.time _)
      · exact .single (State.setCalPin_updates s _)
    all_goals exact .single (State.setCalPin_updates s _)

theorem State.endMeasurement_updates (m : Measurement) (o : CalOutcome) (c : Option Nat) : Updates s (s.endMeasurement m o c) :=
  .tail (.tail (.single (.time _)) (State.markStale_updates _)) (State.latchCal_updates _ o)

theorem State.voidProbes_updates : Update s s.voidProbes := .trunks _

theorem State.acceptMeasurement_updates (m : Measurement) (c : Nat) : Updates s (s.acceptMeasurement m c) :=
  .tail (.tail (.tail (.single (.time _)) (State.voidProbes_updates _)) (State.markStale_updates _)) (State.latchCal_updates _ _)

theorem execCalFallingEdge_updates : updatesTo s (execCalFallingEdge s) := by
  refine updatesTo_next ?_
  split
  · exact .refl s
  · have hpin : Updates s (s.setCalPin false) := .single (State.setCalPin_updates s _)
    dsimp only
    split
    · split
      · exact .tail hpin (.time _)
      · exact hpin
      · split
        · exact hpin.trans (State.acceptMeasurement_updates _ _ _)
        · exact hpin.trans (State.endMeasurement_updates _ _ _ _)
    all_goals exact hpin

theorem execCalWindowExpiry_updates : updatesTo s (execCalWindowExpiry s) := by
  refine updatesTo_next ?_
  split
  · split
    · exact State.endMeasurement_updates s _ _ _
    · exact .refl s
  all_goals exact .refl s

theorem execBadCommandFrame_updates (bits : List Bool) : updatesTo s (execBadCommandFrame bits s) := by
  refine updatesTo_next ?_
  split
  · exact State.command_updates _ (.refl s)
  · exact State.command_updates _ (.refl s)
  · exact State.command_updates _ (.refl s)
  · exact .refl s

theorem execSlotDeadlineExpiry_updates (k : TrunkNo) : updatesTo s (execSlotDeadlineExpiry k s) := by
  refine updatesTo_next ?_
  split
  · split
    · split <;> exact .single (State.putTrunk_updates s k _)
    · exact .refl s
  all_goals exact .refl s

theorem execProbeFrameStart_updates (k : TrunkNo) : updatesTo s (execProbeFrameStart k s) := by
  refine updatesTo_next ?_
  split
  · split <;> exact .single (State.putTrunk_updates s k _)
  · exact .refl s

/-- The entries of a trunk's hold list stand in a hold list of the batch. -/
theorem Dispatched.listsName_of_entriesOf {x : Dispatched} {k : TrunkNo} {e : HoldEntry} (h : e ∈ x.entriesOf k) :
    listsName e.site x.holdLists = true := by
  unfold Dispatched.entriesOf at h
  split at h
  next l hl =>
    simp only [listsName, List.any_eq_true, decide_eq_true_eq]
    exact ⟨l, List.mem_of_find?_eq_some hl, e, h, rfl⟩
  · cases h

/-- Fixing the holds of a frame names no other site in the batch's hold lists. -/
theorem startFrame_names {k : TrunkNo} {g : Granularity} {x : Instant} {b : Batch} {j : SiteNo}
    (h : batchNames j (some (startFrame k g x b).1) = true) : batchNames j (some b) = true := by
  unfold startFrame at h
  split at h
  next y n hy =>
    simp only [batchNames, listsName, Dispatched.withEntries, List.any_map, List.any_eq_true, Function.comp_apply,
      decide_eq_true_eq] at h
    obtain ⟨l, hl, e, he, rfl⟩ := h
    simp only [batchNames, hy]
    split at he
    · simp only [fixEntries, List.mem_map] at he
      obtain ⟨e', he', rfl⟩ := he
      exact (Dispatched.listsName_of_entriesOf he' :)
    · simp only [listsName, List.any_eq_true, decide_eq_true_eq]
      exact ⟨l, hl, e, he, rfl⟩
  all_goals exact h

theorem startFrame_tag (k : TrunkNo) (g : Granularity) (x : Instant) (b : Batch) : (startFrame k g x b).1.tag = b.tag := by
  unfold startFrame
  split <;> rfl

theorem startFrame_posting (k : TrunkNo) (g : Granularity) (x : Instant) (b : Batch) :
    (startFrame k g x b).1.posting = b.posting := by
  unfold startFrame
  split <;> rfl

theorem execBatchFrameStart_updates (k : TrunkNo) : updatesTo s (execBatchFrameStart k s) := by
  refine updatesTo_next ?_
  split
  · split
    next b hb =>
      refine .tail (.single ?_) (State.putTrunk_updates _ k _)
      exact State.putSlot_updates hb (startFrame_tag ..) (startFrame_posting ..) fun j h => .inl (startFrame_names h)
    · exact .refl s
  · exact .refl s

theorem execNoticeReplyStart_updates (k : TrunkNo) : updatesTo s (execNoticeReplyStart k s) := by
  refine updatesTo_next ?_
  split
  · exact .single (State.putTrunk_updates s k _)
  · exact .refl s

theorem execFrameEnd_updates (k : TrunkNo) : updatesTo s (execFrameEnd k s) := by
  refine updatesTo_next ?_
  split
  · split
    · dsimp only
      split
      · exact .trans (.single (State.putTrunk_updates s k _)) (State.frameEnded_updates k true _ _)
      all_goals exact .single (State.putTrunk_updates s k _)
    · exact .refl s
  · exact .refl s

theorem execEchoTaken_updates (k : TrunkNo) (bits : List Bool) : updatesTo s (execEchoTaken k bits s) := by
  refine updatesTo_next ?_
  split
  · split
    · exact .trans (.single (State.putTrunk_updates s k _)) (State.matchEcho_updates k _ _ _ _ _)
    · exact .refl s
  · exact .refl s

theorem execNoticeArrival_updates (k : TrunkNo) (bits : List Bool) : updatesTo s (execNoticeArrival k bits s) := by
  refine updatesTo_next ?_
  split
  · split
    · exact .single (State.putTrunk_updates s k _)
    · exact .trans (.single (State.putTrunk_updates s k _)) (State.applyNotice_updates k _ _ _ _ _)
  · exact .refl s

theorem execReceiveFrameDiscard_updates (k : TrunkNo) (bits : List Bool) (stop : Bool) :
    updatesTo s (execReceiveFrameDiscard k bits stop s) := by
  refine updatesTo_next ?_
  split
  · split
    · exact .single (State.putTrunk_updates s k _)
    · exact .refl s
  · exact .refl s

theorem execReceiveGap_updates (k : TrunkNo) (ticks : Nat) : updatesTo s (execReceiveGap k ticks s) := by
  refine updatesTo_next ?_
  split
  · exact .single (State.putTrunk_updates s k _)
  · exact .refl s

theorem execDelimiterFound_updates (k : TrunkNo) (line : List (Bool × Nat)) : updatesTo s (execDelimiterFound k line s) := by
  refine updatesTo_next ?_
  split
  · exact .single (State.putTrunk_updates s k _)
  · exact .refl s

theorem execProbeTimeoutExpiry_updates (k : TrunkNo) : updatesTo s (execProbeTimeoutExpiry k s) := by
  refine updatesTo_next ?_
  split
  · split
    · have hclosed : Updates s (s.putTrunk k (s.trunks.get k).closeProbe) := .single (State.putTrunk_updates s k _)
      dsimp only
      split
      next hthere => exact .tail hclosed (State.timeoutResult_updates (State.probed_of_stillThere hthere))
      · exact hclosed
    · exact .refl s
  · exact .refl s

theorem execBenchEchoDelivery_updates (k : TrunkNo) : updatesTo s (execBenchEchoDelivery k s) := by
  refine updatesTo_next ?_
  split
  · split
    · exact .refl s
    · exact .single (State.putTrunk_updates s k _)
  · exact .refl s

theorem execDispatchDeadlineExpiry_updates : updatesTo s (execDispatchDeadlineExpiry s) := by
  refine updatesTo_next ?_
  split
  · exact .refl s
  · split
    · split
      · exact State.dispatch_updates _ s
      · exact .refl s
    · exact .refl s

theorem execSettleDeadlineExpiry_updates (i : SlotNo) : updatesTo s (execSettleDeadlineExpiry i s) := by
  refine updatesTo_next ?_
  split
  next b hb =>
    split
    · split
      · exact State.finish_updates _ hb
      · exact .refl s
    all_goals exact .refl s
  · exact .refl s

theorem execSolveStart_updates : updatesTo s (execSolveStart s) := by
  refine updatesTo_next ?_
  split
  · exact .single (State.startSolve_updates s)
  · exact .refl s

theorem execSolveCompletion_updates : updatesTo s (execSolveCompletion s) := by
  refine updatesTo_next ?_
  split
  · exact .tail (State.completeSolve_updates _ _ s) (.choices _)
  · exact .refl s

theorem execCommandFrameStart_updates : updatesTo s (execCommandFrameStart s) := by
  refine updatesTo_next ?_
  split
  · exact .single (.port _ rfl)
  · exact .refl s

theorem execPendingFrame_updates : updatesTo s (execPendingFrame s) := by
  refine updatesTo_next ?_
  split
  · exact .single (.port _ rfl)
  · exact .refl s

end

theorem trunkGetBlock_updates (trunk : Byte) (s : State) : Updates s (trunkGetBlock trunk s).2 := by
  unfold trunkGetBlock
  split <;> exact .refl s

theorem zoneReadBlock_updates (zone : Byte) (s : State) : Updates s (zoneReadBlock zone s).2 := by
  unfold zoneReadBlock
  split
  · exact .refl s
  · split <;> exact .refl s

theorem planReadBlock_updates (first count : Byte) (s : State) : Updates s (planReadBlock first count s).2 := by
  unfold planReadBlock
  split
  · exact .refl s
  · split <;> exact .refl s

/-- Every command that is no reset is a sequence of updates. -/
theorem exec_updates {c : Instr} (hc : resets c = false) (s : State) : updatesTo s (exec c s) := by
  cases c with
  | powerOn | reset | init | selfTestEnd => cases hc
  | resetRelease => exact execResetRelease_updates s
  | powerOnResetRelease => exact execPowerOnResetRelease_updates s
  | oscillatorTick => exact execOscillatorTick_updates s
  | calRisingEdge => exact execCalRisingEdge_updates s
  | calFallingEdge => exact execCalFallingEdge_updates s
  | calWindowExpiry => exact execCalWindowExpiry_updates s
  | pendingFrame => exact execPendingFrame_updates s
  | nop | status | configGet | timeRead => exact updatesTo_command (.refl s)
  | ack causes => exact updatesTo_command (ackBlock_updates s causes)
  | configSetHorizon value => exact updatesTo_command (horizonBlock_updates s value)
  | configSetJumpLimit value => exact updatesTo_command (.single (.params { s.config with jumpLimit := _ } rfl rfl rfl))
  | configSetProbePeriod value => exact updatesTo_command (probePeriodBlock_updates s value)
  | configSetProbeTimeout value => exact updatesTo_command (probeTimeoutBlock_updates s value)
  | configSetHoldoverGrowth value => exact updatesTo_command (growthBlock_updates s value)
  | configSetUncertaintyCeiling value => exact updatesTo_command (ceilingBlock_updates s value)
  | configSetLaunchSpacing value => exact updatesTo_command (.single (.params { s.config with spacing := _ } rfl rfl rfl))
  | configSetDriftThreshold value => exact updatesTo_command (driftBlock_updates s value)
  | configSetAttentionMask value => exact updatesTo_command (maskBlock_updates s value)
  | trunkSet trunk enable rate gran benchDelay =>
    exact updatesTo_command (trunkSetBlock_updates s trunk enable gran rate benchDelay)
  | trunkGet trunk => exact updatesTo_command (trunkGetBlock_updates trunk s)
  | calStart e => exact updatesTo_command (calStartBlock_updates s e)
  | siteAdmit site trunk address asym trim => exact updatesTo_command (siteAdmitBlock_updates s site trunk address asym trim)
  | siteAmend site mask asym trim trunk address =>
    exact updatesTo_command (siteAmendBlock_updates s site mask trunk address asym trim)
  | siteRead site acknowledge => exact updatesTo_command (siteReadBlock_updates s site acknowledge)
  | siteSuspend site => exact updatesTo_command (siteSuspendBlock_updates s site)
  | siteResume site => exact updatesTo_command (siteResumeBlock_updates s site)
  | siteRetire site => exact updatesTo_command (siteRetireBlock_updates s site)
  | zoneDefine zone tolerance y members => exact updatesTo_command (zoneDefineBlock_updates s zone y tolerance members)
  | zoneDelete zone => exact updatesTo_command (zoneDeleteBlock_updates s zone)
  | zoneRead zone => exact updatesTo_command (zoneReadBlock_updates zone s)
  | planRead first count => exact updatesTo_command (planReadBlock_updates first count s)
  | batchPost tag requested payload => exact updatesTo_command (batchPostBlock_updates s tag requested payload)
  | batchWithdraw tag => exact updatesTo_command (batchWithdrawBlock_updates s tag)
  | batchReport => exact updatesTo_command (batchReportBlock_updates s)
  | noticeTake => exact updatesTo_command (noticeTakeBlock_updates s)
  | slotDeadlineExpiry k => exact execSlotDeadlineExpiry_updates s k
  | probeFrameStart k => exact execProbeFrameStart_updates s k
  | batchFrameStart k => exact execBatchFrameStart_updates s k
  | noticeReplyStart k => exact execNoticeReplyStart_updates s k
  | frameEnd k => exact execFrameEnd_updates s k
  | echoTaken k bits => exact execEchoTaken_updates s k bits
  | noticeArrival k bits => exact execNoticeArrival_updates s k bits
  | receiveFrameDiscard k bits stop => exact execReceiveFrameDiscard_updates s k bits stop
  | receiveGap k ticks => exact execReceiveGap_updates s k ticks
  | probeTimeoutExpiry k => exact execProbeTimeoutExpiry_updates s k
  | benchEchoDelivery k => exact execBenchEchoDelivery_updates s k
  | dispatchDeadlineExpiry => exact execDispatchDeadlineExpiry_updates s
  | settleDeadlineExpiry i => exact execSettleDeadlineExpiry_updates s i
  | solveStart => exact execSolveStart_updates s
  | solveCompletion => exact execSolveCompletion_updates s
  | commandFrameStart => exact execCommandFrameStart_updates s
  | badCommandFrame bits => exact execBadCommandFrame_updates s bits
  | delimiterFound k line => exact execDelimiterFound_updates s k line

end Sys2Proof.Machine
end

section
/-! What every command does, as updates or as the clearing of the stores; and the laws of the site table (O56). -/

namespace Sys2Proof.Machine

/-! ### Every command -/

/-- The site, zone, plan and batch stores hold their reset values. -/
structure StoresCleared (t : State) : Prop where
  sites : t.sites = Table.replicate 64 SiteRecord.vacant
  noticeOrder : t.noticeOrder = []
  zones : t.zones = Table.replicate 32 ZoneRecord.cleared
  solver : t.solver = Solver.cleared
  slots : t.slots = Table.replicate 8 none

theorem State.clearAll_storesCleared (s : State) (r : ResetUnit) : StoresCleared { s.clearAll with resetUnit := r } :=
  ⟨rfl, rfl, rfl, rfl, rfl⟩

theorem execInit_cases (mode selfTest : Byte) (s : State) :
    Updates s (s.command .initial (initBlock mode selfTest)) ∨ StoresCleared (s.command .initial (initBlock mode selfTest)) := by
  rcases State.command_cases .initial (initBlock mode selfTest) s with ⟨-, e⟩ | ⟨code, -, -, e⟩ | ⟨-, -, e⟩
  · exact .inl (by rw [e])
  · exact .inl (e ▸ .single (State.respond_updates s _))
  · rw [e]
    unfold initBlock
    split
    · exact .inl (.single (State.respond_updates s _))
    · exact .inr ⟨rfl, rfl, rfl, rfl, rfl⟩

/-- Every command is a sequence of updates, or clears the stores. -/
theorem exec_cases {c : Instr} {s t : State} (h : exec c s = .next t) : Updates s t ∨ StoresCleared t := by
  by_cases hc : resets c = true
  · cases c with
    | powerOn => cases h; exact .inr (State.clearAll_storesCleared s _)
    | reset => cases h; exact .inr (State.clearAll_storesCleared s _)
    | init mode selfTest => cases h; exact execInit_cases mode selfTest s
    | selfTestEnd siteOk zoneOk planOk batchOk =>
      cases h
      split
      · split <;> exact .inr ⟨rfl, rfl, rfl, rfl, rfl⟩
      · exact .inl (.refl s)
    | _ => cases hc
  · exact .inl (exec_updates (by simpa using hc) s t h)

/-- A property of states that updates keep and that cleared stores have is kept by every step. -/
theorem step_keeps {P : State → Prop} (hqueue : ∀ s q, P s → P { s with pending := q }) (hP : ∀ s t, Update s t → P s → P t)
    (hcleared : ∀ t, StoresCleared t → P t) {s t : State} (h : step s = .next t) (hs : P s) : P t := by
  rcases step_cases h with rfl | ⟨c, q, hexec⟩
  · exact hs
  · rcases exec_cases hexec with hu | hcl
    · exact hu.keeps hP (hqueue s q hs)
    · exact hcleared t hcl

/-! ### One record in range -/

section
variable {r : SiteRecord}

/-- A record in service takes another phase and m in range. -/
theorem SiteRecord.inRange_of_phase (hin : r.inRange) (hv : r.state ≠ .vacant) {ph : SitePhase} {m : Nat}
    (hph : ph.inRange m) (hm : m ≤ 3) (hne : ph.state ≠ .vacant)
    (hest : ph.state = .aligned ∨ ph.state = .holdover ∨ ph.state = .suspect → r.est.isSome = true) :
    SiteRecord.inRange { r with phase := ph, m := m } := by
  obtain ⟨-, -, hs, hd, hlink, -, hsome, -⟩ := hin
  exact ⟨hph, hm, hs, hd, hlink, fun h => absurd h hne, fun _ => hsome hv, hest⟩

theorem SiteRecord.vacant_inRange : SiteRecord.vacant.inRange :=
  ⟨trivial, Nat.zero_le _, Nat.zero_le _, nofun, nofun, fun _ => rfl, fun h => absurd rfl h, fun h => by rcases h with h | h | h <;> cases h⟩

theorem SiteRecord.enterProbing_inRange (hin : r.inRange) (hv : r.state ≠ .vacant) : r.enterProbing.inRange :=
  SiteRecord.inRange_of_phase hin hv ⟨by simp, nofun⟩ (by omega) nofun (fun h => by rcases h with h | h | h <;> cases h)

theorem SiteRecord.enterSuspended_inRange (hin : r.inRange) (hv : r.state ≠ .vacant) (held : Bool) :
    (r.enterSuspended held).inRange :=
  SiteRecord.inRange_of_phase hin hv trivial (by omega) nofun (fun h => by rcases h with h | h | h <;> cases h)

theorem SiteRecord.enterRetiring_inRange (hin : r.inRange) (hv : r.state ≠ .vacant) : r.enterRetiring.inRange :=
  SiteRecord.inRange_of_phase hin hv trivial (by omega) nofun (fun h => by rcases h with h | h | h <;> cases h)

theorem SiteRecord.suspectTest_inRange (hin : r.inRange) (growth ceiling : Nat) : (r.suspectTest growth ceiling).inRange := by
  rcases SiteRecord.suspectTest_cases growth ceiling r with ⟨e, -⟩ | ⟨e, u, hu, -⟩ <;> rw [e]
  · exact hin
  · have hstate := SiteRecord.state_of_u hu
    obtain ⟨-, hm, -, -, -, -, -, hest⟩ := id hin
    have hv : r.state ≠ .vacant := by rcases hstate with e | e <;> rw [e] <;> decide
    exact SiteRecord.inRange_of_phase hin hv ⟨by simp, nofun⟩ hm nofun fun _ => hest (by tauto)

/-- The phase a probed record waits in is in range, and keeps the record's state. -/
theorem SitePhase.Waits.inRange {y : Nat} {ph ph' : SitePhase} (h : ph.Waits y ph') (hy : y ≤ 16777215) {m : Nat}
    (hin : ph.inRange m) : ph'.inRange 0 ∧ ph'.state = ph.state := by
  cases h with
  | probing l => exact ⟨pushBounded_inRange hin hy, rfl⟩
  | suspect l => exact ⟨pushBounded_inRange hin hy, rfl⟩
  | aligned l => exact ⟨⟨pushBounded_inRange hin.1 hy, Nat.zero_le _⟩, rfl⟩
  | holdover l h => exact ⟨⟨pushBounded_inRange hin.1 hy, hin.2⟩, rfl⟩

theorem Sampled.inRange {p : Params} {y : Nat} {r' : SiteRecord} (h : Sampled p y r r') (hin : r.inRange)
    (hv : r.state ≠ .vacant) (hy : y ≤ 16777215) : r'.inRange := by
  cases h with
  | waits ph hw =>
    obtain ⟨hphase, -, -, -, -, -, -, hest⟩ := id hin
    obtain ⟨hph, hstate⟩ := hw.inRange hy hphase
    refine SiteRecord.suspectTest_inRange ?_ _ _
    refine SiteRecord.inRange_of_phase hin hv hph (by omega) (fun h => hv (hstate.symm.trans h)) fun h => hest ?_
    rw [hstate] at h
    exact h
  | seats e s hs he =>
    obtain ⟨-, -, -, -, hlink, -, hsome, -⟩ := id hin
    refine SiteRecord.suspectTest_inRange ?_ _ _
    refine ⟨⟨⟨by simp, nofun⟩, Nat.zero_le _⟩, Nat.zero_le _, hs, fun x hx => ?_, hlink, nofun, fun _ => hsome hv, fun _ => rfl⟩
    cases hx
    exact he hin hy

/-- The phase a miss leaves is in range; it is HOLDOVER, or the state is kept. -/
theorem SitePhase.Misses.inRange {n m : Nat} {ph ph' : SitePhase} (h : ph.Misses n ph') (hin : ph.inRange m) :
    ph'.inRange n ∧ (ph'.state = ph.state ∨ ph.state = .aligned ∧ ph'.state = .holdover) := by
  cases h with
  | probing l => exact ⟨hin, .inl rfl⟩
  | suspect l => exact ⟨hin, .inl rfl⟩
  | aligned l h => exact ⟨⟨hin.1, h⟩, .inl rfl⟩
  | lost l h => exact ⟨⟨hin.1, Nat.zero_le _⟩, .inr ⟨rfl, rfl⟩⟩
  | holdover l h => exact ⟨⟨hin.1, min_le_left _ _⟩, .inl rfl⟩

theorem applyMiss_inRange {p : Params} (hp : r.phase.probed = true) (hin : r.inRange) : (applyMiss p r).inRange := by
  obtain ⟨ph, hph, e⟩ := applyMiss_misses p hp
  obtain ⟨hv, -⟩ := SiteRecord.in_service_of_probed hp
  obtain ⟨hphase, -, -, -, -, -, -, hest⟩ := id hin
  obtain ⟨hrange, hstate⟩ := hph.inRange hphase
  rw [e]
  refine SiteRecord.suspectTest_inRange ?_ _ _
  refine SiteRecord.inRange_of_phase hin hv hrange (min_le_left _ _) (fun h => ?_) fun h => ?_
  · rcases hstate with e | ⟨-, e⟩
    · exact hv (e.symm.trans h)
    · rw [e] at h
      cases h
  · rcases hstate with e | ⟨e, -⟩
    · rw [e] at h
      exact hest h
    · exact hest (.inl e)

theorem SiteRecord.noticed_inRange (kind : NoticeKind) (hin : r.inRange) (hv : r.state ≠ .vacant) (n : Option Notice) :
    (SiteRecord.noticeEffect kind { r with notice := n }).inRange := by
  have hstored : SiteRecord.inRange { r with notice := n } := by
    obtain ⟨hphase, hm, hs, hd, hlink, -, hsome, hest⟩ := hin
    exact ⟨hphase, hm, hs, hd, hlink, fun h => absurd h hv, hsome, hest⟩
  rcases SiteRecord.noticeEffect_cases kind { r with notice := n } with e | ⟨e, -⟩ | ⟨e, -⟩ | ⟨e, -⟩ <;> rw [e]
  · exact hstored
  · exact SiteRecord.enterProbing_inRange hstored hv
  · exact SiteRecord.enterSuspended_inRange hstored hv true
  · exact SiteRecord.inRange_of_phase hstored hv trivial hstored.2.1 nofun (fun h => by rcases h with h | h | h <;> cases h)

theorem Link.amended_inRange {x : Amendment} {l : Link} (h : l.inRange) (hx : ∀ v ∈ x.asym, -32768 ≤ v ∧ v ≤ 32767)
    (hw : ∀ w ∈ x.trim, -100000 ≤ w ∧ w ≤ 100000) (hp : ∀ p ∈ x.place, 1 ≤ p.2 ∧ p.2 ≤ 30) : (l.amended x).inRange := by
  obtain ⟨ha, ha', hlow, hhigh, htlow, hthigh⟩ := h
  have hplace : 1 ≤ (l.amended x).address ∧ (l.amended x).address ≤ 30 := by
    unfold Link.amended
    cases h : x.place with
    | none => exact ⟨ha, ha'⟩
    | some p => exact hp p h
  have hasym : -32768 ≤ (l.amended x).asym ∧ (l.amended x).asym ≤ 32767 := by
    unfold Link.amended
    cases h : x.asym with
    | none => exact ⟨hlow, hhigh⟩
    | some v => exact hx v h
  have htrim : -100000 ≤ (l.amended x).trim ∧ (l.amended x).trim ≤ 100000 := by
    unfold Link.amended
    cases h : x.trim with
    | none => exact ⟨htlow, hthigh⟩
    | some w => exact hw w h
  exact ⟨hplace.1, hplace.2, hasym.1, hasym.2, htrim.1, htrim.2⟩

theorem SiteRecord.amended_inRange {x : Amendment} (hin : r.inRange) (hv : r.state ≠ .vacant)
    (hx : ∀ v ∈ x.asym, -32768 ≤ v ∧ v ≤ 32767) (hw : ∀ w ∈ x.trim, -100000 ≤ w ∧ w ≤ 100000)
    (hp : ∀ p ∈ x.place, 1 ≤ p.2 ∧ p.2 ≤ 30) : (r.amended x).inRange := by
  cases hl : r.link with
  | none => rwa [SiteRecord.amended_of_no_link x hl]
  | some l =>
    have hlinked : SiteRecord.inRange { r with link := some (l.amended x) } := by
      obtain ⟨hphase, hm, hs, hd, hlink, -, -, hest⟩ := id hin
      refine ⟨hphase, hm, hs, hd, fun l' hl' => ?_, fun h => absurd h hv, fun _ => rfl, hest⟩
      cases hl'
      exact Link.amended_inRange (hlink l hl) hx hw hp
    rw [SiteRecord.amended_of_link x hl]
    split
    · exact SiteRecord.enterProbing_inRange hlinked hv
    · exact hlinked

theorem SiteRecord.admitted_inRange (k : TrunkNo) {a : Nat} (asym : BitVec 16) {trim : Int} (ha : 1 ≤ a ∧ a ≤ 30)
    (ht : -100000 ≤ trim ∧ trim ≤ 100000) : (SiteRecord.admitted k a asym.toInt trim).inRange := by
  have hlow := BitVec.le_toInt asym
  have hhigh := BitVec.toInt_lt (x := asym)
  norm_num at hlow hhigh
  refine ⟨⟨by simp, nofun⟩, Nat.zero_le _, Nat.zero_le _, nofun, fun l hl => ?_, nofun, fun _ => rfl, fun h => ?_⟩
  · cases hl
    exact ⟨ha.1, ha.2, hlow, by dsimp only; omega, ht.1, ht.2⟩
  · rcases h with h | h | h <;> cases h

theorem SiteRecord.acknowledged_inRange (threshold : Nat) (hin : r.inRange) (hv : r.state ≠ .vacant) :
    (r.acknowledged threshold).inRange := by
  obtain ⟨hphase, hm, hs, hd, hlink, -, hsome, hest⟩ := hin
  refine ⟨hphase, hm, hs, fun e he => ?_, hlink, fun h => absurd h hv, hsome, fun h => ?_⟩
  · obtain ⟨e', he', rfl⟩ := Option.map_eq_some_iff.mp he
    exact ⟨(hd e' he').1, (hd e' he').1⟩
  · exact (Option.isSome_map ..).trans (hest h)

/-- The states in which notices are taken are none but those of a site in service (R95). -/
theorem SiteState.not_vacant_of_takesNotices {x : SiteState} (h : x.takesNotices = true) : x ≠ .vacant ∧ x ≠ .retiring := by
  cases x <;> first | exact ⟨by decide, by decide⟩ | cases h

theorem SiteChange.inRange {s t : State} {i : SiteNo} (h : SiteChange s t i) (hin : (s.sites.get i).inRange) :
    (t.sites.get i).inRange := by
  have hservice (hp : (s.sites.get i).phase.probed = true) := (SiteRecord.in_service_of_probed hp).1
  cases h with
  | same h => rwa [h]
  | vacated hr h => rw [h]; exact SiteRecord.vacant_inRange
  | admitted tr a asym trim ha ht hv hp ho h => rw [h]; exact SiteRecord.admitted_inRange tr asym ha ht
  | amended x hx hw hp hv hr hc ho h => rw [h]; exact SiteRecord.amended_inRange hin hv hx hw hp
  | acknowledged h hv => rw [h]; exact SiteRecord.acknowledged_inRange _ hin hv
  | suspended hp h => rw [h]; exact SiteRecord.enterSuspended_inRange hin (hservice hp) false
  | resumed hp h => rw [h]; exact SiteRecord.enterProbing_inRange hin (by rw [hp]; decide)
  | retired hv h => rw [h]; exact SiteRecord.enterRetiring_inRange hin hv
  | noticeTaken h =>
    obtain ⟨hphase, hm, hs, hd, hlink, hvac, hsome, hest⟩ := hin
    rw [h]
    refine ⟨hphase, hm, hs, hd, hlink, fun hv => ?_, hsome, hest⟩
    rw [hvac hv]
    rfl
  | noticed n hs hn h => rw [h]; exact SiteRecord.noticed_inRange n.kind hin (SiteState.not_vacant_of_takesNotices hs).1 _
  | missed hp h => rw [h]; exact applyMiss_inRange hp hin
  | sampled y hy hp h => rw [h]; exact (applySample_sampled hp).inRange hin (hservice hp) hy
  | reprobed hp h => rw [h]; exact SiteRecord.enterProbing_inRange hin (hservice hp)

end

/-! ### u at most U, and the drift rule -/

/-- u is at most U where it is present (R59). -/
def SiteRecord.bounded (p : Params) (r : SiteRecord) : Prop := ∀ u ∈ r.u p.growth, u ≤ p.ceiling

/-- Drift pending is what the drift rule says (R39). -/
def SiteRecord.drifts (p : Params) (r : SiteRecord) : Prop := r.drift = driftRule p.driftThreshold r.est

theorem driftRule_iff (threshold : Nat) (est : Option Estimate) :
    driftRule threshold est = true ↔
      ∃ e, est = some e ∧ threshold ≠ 0 ∧ threshold < ((e.d : Int) - e.reported).natAbs := by
  cases est <;> simp [driftRule]

theorem driftLaw_iff (s : State) : driftLaw s ↔ ∀ i, (s.sites.get i).drifts s.config := by
  refine forall_congr' fun i => ?_
  rw [SiteRecord.drifts, ← driftRule_iff]
  exact Bool.eq_iff_iff.symm

section
variable {p : Params} {r r' : SiteRecord}

theorem SiteRecord.bounded_of_u_eq (h : r'.u p.growth = r.u p.growth) (hb : r.bounded p) : r'.bounded p := by
  rwa [SiteRecord.bounded, h]

theorem SiteRecord.bounded_of_no_u (h : r.u p.growth = none) : r.bounded p := by
  intro u hu
  rw [h] at hu
  cases hu

theorem SiteRecord.drifts_of_eq (hd : r'.drift = r.drift) (he : r'.est = r.est) (h : r.drifts p) : r'.drifts p := by
  rwa [SiteRecord.drifts, hd, he]

/-- u is read of the phase and s alone (R16). -/
theorem SiteRecord.u_of_same {g : Nat} (hph : r'.phase = r.phase) (hs : r'.s = r.s) : r'.u g = r.u g := by
  simp only [SiteRecord.u, hph, hs]

theorem Sampled.bounded {y : Nat} (h : Sampled p y r r') : r'.bounded p := by
  cases h <;> exact SiteRecord.suspectTest_bounded _ _ _

theorem applyMiss_bounded (hp : r.phase.probed = true) : (applyMiss p r).bounded p := by
  obtain ⟨ph, -, e⟩ := applyMiss_misses p hp
  rw [e]
  exact SiteRecord.suspectTest_bounded _ _ _

theorem Sampled.drifts {y : Nat} (h : Sampled p y r r') (hd : r.drifts p) : r'.drifts p := by
  cases h with
  | waits ph hw => exact SiteRecord.drifts_of_eq SiteRecord.suspectTest_drift SiteRecord.suspectTest_est hd
  | seats e s => exact SiteRecord.drifts_of_eq SiteRecord.suspectTest_drift SiteRecord.suspectTest_est rfl

theorem applyMiss_drifts (hp : r.phase.probed = true) (hd : r.drifts p) : (applyMiss p r).drifts p := by
  obtain ⟨ph, -, e⟩ := applyMiss_misses p hp
  rw [e]
  exact SiteRecord.drifts_of_eq SiteRecord.suspectTest_drift SiteRecord.suspectTest_est hd

end

section
variable {s t : State} {i : SiteNo}

theorem SiteChange.bounded (h : SiteChange s t i) (hb : (s.sites.get i).bounded s.config) : (t.sites.get i).bounded s.config := by
  cases h with
  | same h => rwa [h]
  | vacated hr h => rw [h]; exact SiteRecord.bounded_of_no_u rfl
  | admitted tr a asym trim ha ht hv hp ho h => rw [h]; exact SiteRecord.bounded_of_no_u rfl
  | amended x hx hw hp hv hr hc ho h =>
    rw [h]
    cases hl : (s.sites.get i).link with
    | none => rwa [SiteRecord.amended_of_no_link x hl]
    | some l =>
      rw [SiteRecord.amended_of_link x hl]
      split
      · exact SiteRecord.bounded_of_no_u rfl
      · exact SiteRecord.bounded_of_u_eq (SiteRecord.u_of_same rfl rfl) hb
  | acknowledged h hv => rw [h]; exact SiteRecord.bounded_of_u_eq (SiteRecord.u_of_same rfl rfl) hb
  | suspended hp h => rw [h]; exact SiteRecord.bounded_of_no_u rfl
  | resumed hp h => rw [h]; exact SiteRecord.bounded_of_no_u rfl
  | retired hv h => rw [h]; exact SiteRecord.bounded_of_no_u rfl
  | noticeTaken h => rw [h]; exact SiteRecord.bounded_of_u_eq (SiteRecord.u_of_same rfl rfl) hb
  | noticed n hs hn h =>
    rw [h]
    rcases SiteRecord.noticeEffect_cases n.kind { s.sites.get i with notice := some n } with e | ⟨e, -⟩ | ⟨e, -⟩ | ⟨e, -⟩
      <;> rw [e]
    · exact SiteRecord.bounded_of_u_eq (SiteRecord.u_of_same rfl rfl) hb
    all_goals exact SiteRecord.bounded_of_no_u rfl
  | missed hp h => rw [h]; exact applyMiss_bounded hp
  | sampled y hy hp h => rw [h]; exact (applySample_sampled hp).bounded
  | reprobed hp h => rw [h]; exact SiteRecord.bounded_of_no_u rfl

theorem SiteChange.drifts (h : SiteChange s t i) (hd : (s.sites.get i).drifts s.config) : (t.sites.get i).drifts s.config := by
  cases h with
  | same h => rwa [h]
  | vacated hr h => rw [h]; rfl
  | admitted tr a asym trim ha ht hv hp ho h => rw [h]; rfl
  | amended x hx hw hp hv hr hc ho h =>
    rw [h]
    cases hl : (s.sites.get i).link with
    | none => rwa [SiteRecord.amended_of_no_link x hl]
    | some l =>
      rw [SiteRecord.amended_of_link x hl]
      split <;> exact SiteRecord.drifts_of_eq rfl rfl hd
  | acknowledged h hv => rw [h]; rfl
  | suspended hp h => rw [h]; exact SiteRecord.drifts_of_eq rfl rfl hd
  | resumed hp h => rw [h]; exact SiteRecord.drifts_of_eq rfl rfl hd
  | retired hv h => rw [h]; exact SiteRecord.drifts_of_eq rfl rfl hd
  | noticeTaken h => rw [h]; exact SiteRecord.drifts_of_eq rfl rfl hd
  | noticed n hs hn h =>
    rw [h]
    rcases SiteRecord.noticeEffect_cases n.kind { s.sites.get i with notice := some n } with e | ⟨e, -⟩ | ⟨e, -⟩ | ⟨e, -⟩
      <;> rw [e] <;> exact SiteRecord.drifts_of_eq rfl rfl hd
  | missed hp h => rw [h]; exact applyMiss_drifts hp hd
  | sampled y hy hp h => rw [h]; exact (applySample_sampled hp).drifts hd
  | reprobed hp h => rw [h]; exact SiteRecord.drifts_of_eq rfl rfl hd

/-! ### Places (R18) -/

theorem SiteRecord.isAt_of_link {r r' : SiteRecord} (h : r'.link = r.link) (k : TrunkNo) (a : Nat) : r'.isAt k a = r.isAt k a := by
  simp only [SiteRecord.isAt, h]

theorem State.placeHeld_of {j : SiteNo} {k : TrunkNo} {a : Nat} (hj : j ≠ i) (hv : (s.sites.get j).state ≠ .vacant)
    (ha : (s.sites.get j).isAt k a = true) : s.placeHeld i k a = true := by
  simp only [State.placeHeld, List.any_eq_true, Bool.and_eq_true, decide_eq_true_eq]
  exact ⟨j, List.mem_finRange j, ⟨hj, hv⟩, ha⟩

/-- A site's place in a step: it holds no place it did not hold, or it alone moves onto a place that no other site holds. -/
inductive PlaceChange (s t : State) (i : SiteNo) : Prop where
  | kept (h : (t.sites.get i).state ≠ .vacant → (s.sites.get i).state ≠ .vacant
      ∧ ∀ k a, (t.sites.get i).isAt k a = true → (s.sites.get i).isAt k a = true)
  | moved (ho : otherSitesSame i s t) (h : ∀ k a, (t.sites.get i).isAt k a = true → s.placeHeld i k a = false)

theorem PlaceChange.of_link (hl : (t.sites.get i).link = (s.sites.get i).link) (hv : (s.sites.get i).state ≠ .vacant) :
    PlaceChange s t i :=
  .kept fun _ => ⟨hv, fun k a h => (SiteRecord.isAt_of_link hl k a).symm.trans h⟩

/-- Places stay distinct where every site keeps its place or moves onto a free one. -/
theorem placesDistinct_of_changes (h : ∀ i, PlaceChange s t i) (hs : placesDistinct s) : placesDistinct t := by
  -- a site that moves meets no other at its new place
  have hmoved {i j : SiteNo} {k : TrunkNo} {a : Nat} (ho : otherSitesSame i s t)
      (hfree : ∀ k a, (t.sites.get i).isAt k a = true → s.placeHeld i k a = false)
      (hv : (t.sites.get j).state ≠ .vacant) (hi : (t.sites.get i).isAt k a = true)
      (hj : (t.sites.get j).isAt k a = true) : i = j := by
    by_contra hne
    rw [ho j (Ne.symm hne)] at hv hj
    have hheld := State.placeHeld_of (Ne.symm hne) hv hj
    rw [hfree k a hi] at hheld
    cases hheld
  intro i j k a hvi hvj hi hj
  rcases h i with hki | ⟨ho, hfree⟩
  · rcases h j with hkj | ⟨ho, hfree⟩
    · obtain ⟨hvi', hi'⟩ := hki hvi
      obtain ⟨hvj', hj'⟩ := hkj hvj
      exact hs i j k a hvi' hvj' (hi' k a hi) (hj' k a hj)
    · exact (hmoved ho hfree hvi hj hi).symm
  · exact hmoved ho hfree hvj hi hj

/-- An amendment keeps the place, or moves the record onto one that no other site holds (R28, R30). -/
theorem State.amended_place {x : Amendment} (hc : s.amendmentCollides i x = false) :
    (∀ k a, ((s.sites.get i).amended x).isAt k a = true → (s.sites.get i).isAt k a = true)
      ∨ ∀ k a, ((s.sites.get i).amended x).isAt k a = true → s.placeHeld i k a = false := by
  cases hl : (s.sites.get i).link with
  | none => exact .inl fun k a h => by rwa [SiteRecord.amended_of_no_link x hl] at h
  | some l =>
    have hlink : ((s.sites.get i).amended x).link = some (l.amended x) := by
      rw [SiteRecord.amended_of_link x hl]
      split <;> rfl
    have hat (k : TrunkNo) (a : Nat) :
        ((s.sites.get i).amended x).isAt k a = true ↔ (l.amended x).trunk = k ∧ (l.amended x).address = a := by
      simp only [SiteRecord.isAt, hlink, decide_eq_true_eq]
    cases hp : x.place with
    | none =>
      refine .inl fun k a h => ?_
      rw [hat] at h
      simpa [SiteRecord.isAt, hl, Link.amended, hp] using h
    | some p =>
      have hplace : (l.amended x).trunk = p.1 ∧ (l.amended x).address = p.2 := by simp [Link.amended, hp]
      by_cases hm : l.movedBy x = true
      · refine .inr fun k a h => ?_
        obtain ⟨hk, ha⟩ := (hat k a).mp h
        rw [← hk, ← ha, hplace.1, hplace.2]
        simpa [State.amendmentCollides, hl, hp, hm] using hc
      · refine .inl fun k a h => ?_
        have hsame : p = (l.trunk, l.address) := by simpa [Link.movedBy, hp] using hm
        rw [hat, hplace.1, hplace.2, hsame] at h
        simpa [SiteRecord.isAt, hl] using h

theorem SiteChange.place (h : SiteChange s t i) : PlaceChange s t i := by
  have hservice (hp : (s.sites.get i).phase.probed = true) := (SiteRecord.in_service_of_probed hp).1
  cases h with
  | same h => exact .kept fun hv => by rw [h] at hv ⊢; exact ⟨hv, fun _ _ => id⟩
  | vacated hr h => exact .kept fun hv => by rw [h] at hv; exact absurd rfl hv
  | admitted tr a asym trim ha ht hv hp ho h =>
    refine .moved ho fun k a' h' => ?_
    rw [h] at h'
    obtain ⟨rfl, rfl⟩ : tr = k ∧ a = a' := by simpa [SiteRecord.isAt, SiteRecord.admitted, SiteRecord.enterProbing] using h'
    exact hp
  | amended x hx hw hp hv hr hc ho h =>
    rcases State.amended_place hc with hkept | hfree
    · exact .kept fun _ => ⟨hv, h ▸ hkept⟩
    · exact .moved ho (h ▸ hfree)
  | acknowledged h hv => exact .of_link (by rw [h]; rfl) hv
  | suspended hp h => exact .of_link (by rw [h]; rfl) (hservice hp)
  | resumed hp h => exact .of_link (by rw [h]; rfl) (by rw [hp]; decide)
  | retired hv h => exact .of_link (by rw [h]; rfl) hv
  | noticeTaken h => exact .kept fun hv => by rw [h] at hv ⊢; exact ⟨hv, fun _ _ => id⟩
  | noticed n hs hn h =>
    exact .of_link (by rw [h, SiteRecord.noticeEffect_link]) (SiteState.not_vacant_of_takesNotices hs).1
  | missed hp h => exact .of_link (by rw [h, applyMiss_link hp]) (hservice hp)
  | sampled y hy hp h => exact .of_link (by rw [h, (applySample_sampled hp).link]) (hservice hp)
  | reprobed hp h => exact .of_link (by rw [h]; rfl) (hservice hp)

/-! ### What an update does to the site table -/

/-- What an update does to the site table and its parameters: each record changes by itself, or a parameter of the table is
set and its test made at every record. -/
inductive SitesUpdate (s t : State) : Prop where
  | changed (hc : ∀ i, SiteChange s t i) (hg : t.config.growth = s.config.growth) (hu : t.config.ceiling = s.config.ceiling)
    (hd : t.config.driftThreshold = s.config.driftThreshold)
  | tested (h : ∀ i, t.sites.get i = (s.sites.get i).suspectTest t.config.growth t.config.ceiling)
    (hd : t.config.driftThreshold = s.config.driftThreshold)
  | redrifted (h : ∀ i, t.sites.get i = (s.sites.get i).redrift t.config.driftThreshold)
    (hg : t.config.growth = s.config.growth) (hu : t.config.ceiling = s.config.ceiling)

theorem State.mapSites_trunkDisabled_change (k : TrunkNo) (i : SiteNo) :
    SiteChange s (s.mapSites fun _ r => r.trunkDisabled k) i := by
  have e : (s.mapSites fun _ r => r.trunkDisabled k).sites.get i = (s.sites.get i).trunkDisabled k := by simp
  by_cases h : ((s.sites.get i).onTrunk k && (s.sites.get i).phase.probed) = true
  · rw [SiteRecord.trunkDisabled, if_pos h] at e
    simp only [Bool.and_eq_true] at h
    exact .reprobed h.2 e
  · rw [SiteRecord.trunkDisabled, if_neg h] at e
    exact .same e

theorem Update.sitesUpdate (h : Update s t) : SitesUpdate s t := by
  have hsame {u : State} (e : u.sites = s.sites) (hc : u.config = s.config) : SitesUpdate s u :=
    .changed (fun i => .same (by rw [e])) (by rw [hc]) (by rw [hc]) (by rw [hc])
  cases h with
  | time | port | resetUnit | choices | trunks | solver | published | attention | zone | slots | posted =>
    exact hsame rfl rfl
  | freed i =>
    exact hsame ((State.freeSlot_onlyChanges i s).2 .sites (by decide)) ((State.freeSlot_onlyChanges i s).2 .config (by decide))
  | params p hg hu hd => exact .changed (fun i => .same rfl) hg hu hd
  | growth g => exact .tested (fun i => by simp) rfl
  | ceiling u => exact .tested (fun i => by simp) rfl
  | driftThreshold d => exact .redrifted (fun i => by simp) rfl rfl
  | site i r hc hn hv hr => exact .changed hc rfl rfl rfl
  | retired i hv => exact .changed (SiteChange.of_put rfl fun _ h => .retired hv h) rfl rfl rfl
  | noticeTaken i rest h => exact .changed (SiteChange.of_put rfl fun _ h => .noticeTaken h) rfl rfl rfl
  | noticed i n hs hn => exact .changed (SiteChange.of_put rfl fun _ h => .noticed n hs hn h) rfl rfl rfl
  | reprobed k => exact .changed (State.mapSites_trunkDisabled_change k) rfl rfl rfl
  | retireTest => exact .changed (SiteChange.of_vacates (State.retireTest_vacates s)) rfl rfl rfl

/-! ### The laws under an update -/

theorem SiteRecord.redrift_inRange {r : SiteRecord} (threshold : Nat) (hin : r.inRange) : (r.redrift threshold).inRange := by
  obtain ⟨hphase, hm, hs, hd, hlink, hvac, hsome, hest⟩ := hin
  refine ⟨hphase, hm, hs, hd, hlink, fun h => ?_, hsome, hest⟩
  rw [hvac h]
  rfl

theorem Update.sitesInRange (h : Update s t) (hs : sitesInRange s) : sitesInRange t := by
  intro i
  cases h.sitesUpdate with
  | changed hc => exact (hc i).inRange (hs i)
  | tested h => rw [h]; exact SiteRecord.suspectTest_inRange (hs i) _ _
  | redrifted h => rw [h]; exact SiteRecord.redrift_inRange _ (hs i)

theorem Update.uncertaintyBounded (h : Update s t) (hs : uncertaintyBounded s) : uncertaintyBounded t := by
  intro i
  cases h.sitesUpdate with
  | changed hc hg hu => rw [hg, hu]; exact (hc i).bounded (hs i)
  | tested h => rw [h]; exact SiteRecord.suspectTest_bounded _ _ _
  | redrifted h hg hu => rw [h, hg, hu]; exact SiteRecord.bounded_of_u_eq (SiteRecord.u_of_same rfl rfl) (hs i)

theorem Update.driftLaw (h : Update s t) (hs : driftLaw s) : driftLaw t := by
  rw [driftLaw_iff] at hs ⊢
  intro i
  cases h.sitesUpdate with
  | changed hc hg hu hd => rw [SiteRecord.drifts, hd]; exact (hc i).drifts (hs i)
  | tested h hd =>
    rw [SiteRecord.drifts, hd, h, SiteRecord.suspectTest_drift, SiteRecord.suspectTest_est]
    exact hs i
  | redrifted h => rw [h]; rfl

theorem Update.placesDistinct (h : Update s t) (hs : placesDistinct s) : placesDistinct t := by
  refine placesDistinct_of_changes (fun i => ?_) hs
  cases h.sitesUpdate with
  | changed hc => exact (hc i).place
  | tested h =>
    refine .kept fun hv => ?_
    rw [h] at hv ⊢
    refine ⟨fun e => ?_, fun k a => by rw [SiteRecord.isAt_of_link SiteRecord.suspectTest_link]; exact id⟩
    rcases SiteRecord.suspectTest_state t.config.growth t.config.ceiling (s.sites.get i) with h' | ⟨h' | h', -⟩
    · exact hv (h'.trans e)
    all_goals
      rw [e] at h'
      cases h'
  | redrifted h =>
    refine .kept fun hv => ?_
    rw [h] at hv ⊢
    exact ⟨hv, fun _ _ => id⟩

end

/-! ### VACANT sites are unplanned -/

/-- The plan that is published excludes every VACANT site (R36, R130). -/
theorem State.publish_excludes_vacant {s : State} {n : Snapshot} {i : SiteNo} (h : (s.sites.get i).state = .vacant) :
    planExcludes (s.publish n).solver.latest i = true := by
  have hlatest : (s.publish n).solver.latest
      = some ((n.plan (nextEpoch s.solver.epoch)).excludeVacant s.sites) := rfl
  simp only [planExcludes, hlatest, Plan.excludeVacant, Table.get_mapIdx]
  cases (n.plan (nextEpoch s.solver.epoch)).sites.get i <;> simp [h]

/-- Sites that become VACANT in no step keep the law of VACANT sites, where the plan and the slots stay. -/
theorem vacantLaw_of_same {s t : State} (hl : t.solver.latest = s.solver.latest) (hk : t.slots = s.slots)
    (hv : ∀ i, (t.sites.get i).state = .vacant → (s.sites.get i).state = .vacant) (h : vacantLaw s) : vacantLaw t := by
  intro i hi
  rw [hl, hk]
  exact h i (hv i hi)

theorem State.putSite_vacant {s : State} {i j : SiteNo} {r : SiteRecord} (h : ((s.putSite i r).sites.get j).state = .vacant)
    (hr : r.state = .vacant → (s.sites.get i).state = .vacant) : (s.sites.get j).state = .vacant := by
  rw [State.putSite_sites, Table.get_set] at h
  split at h
  next e => exact e ▸ hr h
  · exact h

theorem SiteRecord.suspectTest_vacant {g u : Nat} {r : SiteRecord} (h : (r.suspectTest g u).state = .vacant) :
    r.state = .vacant := by
  rcases SiteRecord.suspectTest_state g u r with e | ⟨-, e⟩
  · exact e.symm.trans h
  · rw [e] at h
    cases h

theorem SiteRecord.trunkDisabled_vacant {k : TrunkNo} {r : SiteRecord} (h : (r.trunkDisabled k).state = .vacant) :
    r.state = .vacant := by
  unfold SiteRecord.trunkDisabled at h
  split at h
  · cases h
  · exact h

theorem SiteRecord.noticeEffect_vacant {kind : NoticeKind} {r : SiteRecord} (h : (r.noticeEffect kind).state = .vacant) :
    r.state = .vacant := by
  rcases r.noticeEffect_cases kind with e | ⟨e, -⟩ | ⟨e, -⟩ | ⟨e, -⟩ <;> rw [e] at h
  · exact h
  all_goals cases h

theorem Update.vacantLaw {s t : State} (h : Update s t) (hs : vacantLaw s) : vacantLaw t := by
  cases h with
  | time | port | resetUnit | choices | trunks | attention | params => exact hs
  | solver v h => exact vacantLaw_of_same (s := s) h rfl (fun _ => id) hs
  | zone => exact vacantLaw_of_same (s := s) rfl rfl (fun _ => id) hs
  | published n => exact fun i hi => ⟨State.publish_excludes_vacant hi, (hs i hi).2⟩
  | growth g => exact vacantLaw_of_same (s := s) rfl rfl (fun i hi => SiteRecord.suspectTest_vacant (by simpa using hi)) hs
  | ceiling u => exact vacantLaw_of_same (s := s) rfl rfl (fun i hi => SiteRecord.suspectTest_vacant (by simpa using hi)) hs
  | driftThreshold d =>
    refine vacantLaw_of_same (s := s) rfl rfl (fun i hi => ?_) hs
    have hr : ((s.sites.get i).redrift d).state = .vacant := by simpa using hi
    exact hr
  | site i r hc hn hv hr => exact vacantLaw_of_same (s := s) rfl rfl (fun j hj => State.putSite_vacant hj fun h => absurd h hv) hs
  | retired i hv => exact vacantLaw_of_same (s := s) rfl rfl (fun j hj => State.putSite_vacant (i := i) hj fun h => by cases h) hs
  | noticeTaken i rest h => exact vacantLaw_of_same (s := s) rfl rfl (fun j hj => State.putSite_vacant (i := i) hj id) hs
  | noticed i n hst hn =>
    refine vacantLaw_of_same (s := s) rfl rfl (fun j hj => State.putSite_vacant (i := i) hj fun h => ?_) hs
    exact SiteRecord.noticeEffect_vacant (r := { s.sites.get i with notice := some n }) h
  | reprobed k => exact vacantLaw_of_same (s := s) rfl rfl (fun i hi => SiteRecord.trunkDisabled_vacant (by simpa using hi)) hs
  | retireTest =>
    intro i hi
    by_cases hp : s.passesRetireTest i = true
    · simp only [State.passesRetireTest, Bool.and_eq_true, Bool.not_eq_true', Table.any_eq_false] at hp
      exact ⟨hp.1.2, hp.2⟩
    · simp only [State.retireTest_sites, Table.get_mapIdx, if_neg hp] at hi
      exact hs i hi
  | slots x hkept =>
    intro i hi
    obtain ⟨hplan, hnames⟩ := hs i hi
    refine ⟨hplan, fun k => ?_⟩
    by_contra hne
    obtain ⟨-, -, hn⟩ := hkept k
    rcases hn i (by simpa using hne) with h | h
    · rw [hnames k] at h
      cases h
    · rw [hplan] at h
      cases h
  | posted i b hfree ht hp hb =>
    intro j hj
    obtain ⟨hplan, hnames⟩ := hs j hj
    refine ⟨hplan, fun k => ?_⟩
    rw [State.putSlot_slots, Table.get_set]
    split
    · simp only [batchNames, hb]
    · exact hnames k
  | freed i =>
    unfold State.freeSlot
    split
    next b hb =>
      intro j hj
      obtain ⟨hplan, hnames⟩ := hs j hj
      refine ⟨hplan, fun k => ?_⟩
      have hk := hnames k
      rw [State.installSlots_slots, Table.get_mapIdx]
      split
      · rfl
      · cases hc : s.slots.get k with
        | none => rfl
        | some c =>
          rw [hc] at hk
          rw [Option.map_some]
          split <;> exact hk
    · exact hs

/-! ### Cleared stores -/

section
variable {t : State}

theorem StoresCleared.site (h : StoresCleared t) (i : SiteNo) : t.sites.get i = SiteRecord.vacant := by simp [h.sites]

theorem StoresCleared.slot (h : StoresCleared t) (i : SlotNo) : t.slots.get i = none := by simp [h.slots]

theorem StoresCleared.sitesInRange (h : StoresCleared t) : sitesInRange t := fun i => by
  rw [h.site]
  exact SiteRecord.vacant_inRange

theorem StoresCleared.uncertaintyBounded (h : StoresCleared t) : uncertaintyBounded t := fun i u hu => by
  rw [h.site] at hu
  cases hu

theorem StoresCleared.driftLaw (h : StoresCleared t) : driftLaw t := by
  rw [driftLaw_iff]
  intro i
  rw [h.site]
  rfl

theorem StoresCleared.placesDistinct (h : StoresCleared t) : placesDistinct t := fun i j k a hi => by
  rw [h.site] at hi
  exact absurd rfl hi

theorem StoresCleared.vacantLaw (h : StoresCleared t) : vacantLaw t := fun i _ => by
  refine ⟨?_, fun k => ?_⟩
  · rw [h.solver]
    rfl
  · rw [h.slot]
    rfl

end

/-- Settles O56: each law is kept by every update and holds where the stores are cleared. -/
theorem everyStepKeepsSiteRecordsLawful : Obligations.EveryStepKeepsSiteRecordsLawful := by
  intro s t hs h
  exact ⟨step_keeps (fun _ _ => id) (fun _ _ => Update.sitesInRange) (fun _ => StoresCleared.sitesInRange) h hs,
    step_keeps (fun _ _ => id) (fun _ _ => Update.uncertaintyBounded) (fun _ => StoresCleared.uncertaintyBounded) h,
    step_keeps (fun _ _ => id) (fun _ _ => Update.driftLaw) (fun _ => StoresCleared.driftLaw) h,
    step_keeps (fun _ _ => id) (fun _ _ => Update.placesDistinct) (fun _ => StoresCleared.placesDistinct) h,
    step_keeps (fun _ _ => id) (fun _ _ => Update.vacantLaw) (fun _ => StoresCleared.vacantLaw) h⟩

end Sys2Proof.Machine
end

section
/-! The laws of notices, zones, slots and conditions (O57, O58, O59), each proved once for every update. -/

namespace Sys2Proof.Machine

/-! ### Notices -/

section
variable {s t : State}

/-- The law of notices reads the order list, the notice slots and which sites are VACANT. -/
theorem noticeLaw_of_same (ho : t.noticeOrder = s.noticeOrder) (hn : ∀ i, (t.sites.get i).notice = (s.sites.get i).notice)
    (hv : ∀ i, (t.sites.get i).state = .vacant → (s.sites.get i).state = .vacant) (h : noticeLaw s) : noticeLaw t := by
  obtain ⟨hnodup, hmem, hvac⟩ := h
  refine ⟨ho ▸ hnodup, fun i => ?_, fun i hi => ?_⟩
  · rw [ho, hn]
    exact hmem i
  · rw [hn]
    exact hvac i (hv i hi)

/-- One record changes that keeps its notice. -/
theorem noticeLaw_of_put {i : SiteNo} {r : SiteRecord} (ho : t.noticeOrder = s.noticeOrder) (ht : t.sites = s.sites.set i r)
    (hn : r.notice = (s.sites.get i).notice) (hv : r.state ≠ .vacant) (h : noticeLaw s) : noticeLaw t := by
  refine noticeLaw_of_same ho (fun j => ?_) (fun j hj => ?_) h
  · rw [ht, Table.get_set]
    split
    next e => rw [hn, e]
    · rfl
  · rw [ht, Table.get_set] at hj
    split at hj
    · exact absurd hj hv
    · exact hj

theorem SiteRecord.trunkDisabled_notice (k : TrunkNo) (r : SiteRecord) : (r.trunkDisabled k).notice = r.notice := by
  unfold SiteRecord.trunkDisabled
  split <;> rfl

/-- The head of the order list leaves it with its notice (R104). -/
theorem noticeLaw_of_taken {i : SiteNo} {rest : List SiteNo} (h : s.noticeOrder = i :: rest) (hs : noticeLaw s) :
    noticeLaw ((s.putSite i { s.sites.get i with notice := none }).setNoticeOrder rest) := by
  obtain ⟨hnodup, hmem, hvac⟩ := hs
  rw [h, List.nodup_cons] at hnodup
  obtain ⟨hi, hrest⟩ := hnodup
  refine ⟨hrest, fun j => ?_, fun j hj => ?_⟩
  · rw [State.setNoticeOrder_noticeOrder, State.setNoticeOrder_sites, State.putSite_sites, Table.get_set]
    split
    next e => simpa [e] using hi
    next e => rw [← hmem, h, List.mem_cons, or_iff_right e]
  · rw [State.setNoticeOrder_sites, State.putSite_sites, Table.get_set] at hj ⊢
    split at hj
    next e => rw [if_pos e]
    next e =>
      rw [if_neg e]
      exact hvac j hj

/-- A site whose notice slot was empty joins the tail of the order list with its notice (R97). -/
theorem noticeLaw_of_noticed {i : SiteNo} {n : Notice} (hst : (s.sites.get i).state.takesNotices = true)
    (hn : (s.sites.get i).notice = none) (hs : noticeLaw s) : noticeLaw (s.storeNotice i n) := by
  obtain ⟨hnodup, hmem, hvac⟩ := hs
  have hi : i ∉ s.noticeOrder := fun h => by
    have hsome := (hmem i).mp h
    rw [hn] at hsome
    cases hsome
  refine ⟨?_, fun j => ?_, fun j hj => ?_⟩
  · rw [State.storeNotice_noticeOrder]
    exact List.nodup_append.mpr ⟨hnodup, List.nodup_singleton i, fun a ha b hb => by
      rintro rfl
      exact hi (List.mem_singleton.mp hb ▸ ha)⟩
  · rw [State.storeNotice_noticeOrder, State.storeNotice_sites, Table.get_set, List.mem_append, List.mem_singleton]
    split
    next e => simp [e, SiteRecord.noticeEffect_notice]
    next e => rw [hmem, or_iff_left e]
  · rw [State.storeNotice_sites, Table.get_set] at hj ⊢
    split at hj
    · have hvacant := SiteRecord.noticeEffect_vacant hj
      exact absurd hvacant (SiteState.not_vacant_of_takesNotices hst).1
    next e =>
      rw [if_neg e]
      exact hvac j hj

/-- The sites vacated leave the order list with their notices (R36, R106). -/
theorem noticeLaw_of_retireTest (hs : noticeLaw s) : noticeLaw s.retireTest := by
  obtain ⟨hnodup, hmem, hvac⟩ := hs
  refine ⟨hnodup.filter _, fun i => ?_, fun i hi => ?_⟩
  · rw [State.retireTest_noticeOrder, State.retireTest_sites, Table.get_mapIdx, List.mem_filter, hmem]
    cases hp : s.passesRetireTest i <;> simp [SiteRecord.vacant]
  · rw [State.retireTest_sites, Table.get_mapIdx] at hi ⊢
    split at hi
    next hp => simp [hp, SiteRecord.vacant]
    next hp =>
      rw [if_neg hp]
      exact hvac i hi

theorem Update.noticeLaw (h : Update s t) (hs : noticeLaw s) : noticeLaw t := by
  cases h with
  | time | port | resetUnit | choices | trunks | solver | published | attention | params | zone | slots | posted => exact hs
  | growth g =>
    exact noticeLaw_of_same (s := s) rfl (fun i => by simp) (fun i hi => SiteRecord.suspectTest_vacant (by simpa using hi)) hs
  | ceiling u =>
    exact noticeLaw_of_same (s := s) rfl (fun i => by simp) (fun i hi => SiteRecord.suspectTest_vacant (by simpa using hi)) hs
  | driftThreshold d =>
    refine noticeLaw_of_same (s := s) rfl (fun i => ?_) (fun i hi => ?_) hs
    · simp [SiteRecord.redrift]
    · have hr : ((s.sites.get i).redrift d).state = .vacant := by simpa using hi
      exact hr
  | site i r hc hn hv hr =>
    refine noticeLaw_of_put (s := s) rfl rfl ?_ hv hs
    rcases hn with hn | ⟨hvac, hn⟩
    · exact hn
    · rw [hn, hs.2.2 i hvac]
  | retired i hv => exact noticeLaw_of_put (s := s) (i := i) rfl rfl rfl nofun hs
  | noticeTaken i rest h => exact noticeLaw_of_taken h hs
  | noticed i n hst hn => exact noticeLaw_of_noticed hst hn hs
  | reprobed k =>
    exact noticeLaw_of_same (s := s) rfl (fun i => by simp [SiteRecord.trunkDisabled_notice])
      (fun i hi => SiteRecord.trunkDisabled_vacant (by simpa using hi)) hs
  | retireTest => exact noticeLaw_of_retireTest hs
  | freed i =>
    unfold State.freeSlot
    split <;> exact hs

theorem StoresCleared.noticeLaw (h : StoresCleared t) : noticeLaw t := by
  refine ⟨?_, fun i => ?_, fun i _ => ?_⟩
  · rw [h.noticeOrder]
    exact List.nodup_nil
  · rw [h.noticeOrder, h.site]
    simp [SiteRecord.vacant]
  · rw [h.site]
    rfl

/-- Settles O57: every update keeps the order list to the sites with a notice. -/
theorem everyStepKeepsTheNoticeOrder : Obligations.EveryStepKeepsTheNoticeOrder := fun _ _ hs h =>
  step_keeps (fun _ _ => id) (fun _ _ => Update.noticeLaw) (fun _ => StoresCleared.noticeLaw) h hs

/-! ### Zones -/

/-- A site that can be a zone's member: neither VACANT nor RETIRING (R108). -/
def SiteRecord.serves (r : SiteRecord) : Prop := r.state ≠ .vacant ∧ r.state ≠ .retiring

/-- The law of zones is kept where the zones stay and their members keep serving. -/
theorem zoneLaw_of_same (hz : t.zones = s.zones) (hs : ∀ i, (s.sites.get i).serves → (t.sites.get i).serves)
    (h : zoneLaw s) : zoneLaw t := by
  intro z b hb
  rw [hz] at hb
  obtain ⟨hlawful, hmembers⟩ := h z b hb
  exact ⟨hlawful, fun m hm => hs m.1 (hmembers m hm)⟩

theorem SiteRecord.suspectTest_serves {g u : Nat} {r : SiteRecord} (h : r.serves) : (r.suspectTest g u).serves := by
  rcases SiteRecord.suspectTest_state g u r with e | ⟨-, e⟩ <;> rw [SiteRecord.serves, e]
  · exact h
  · decide

theorem SiteRecord.trunkDisabled_serves {k : TrunkNo} {r : SiteRecord} (h : r.serves) : (r.trunkDisabled k).serves := by
  unfold SiteRecord.trunkDisabled
  split
  · exact ⟨nofun, nofun⟩
  · exact h

theorem SiteRecord.noticeEffect_serves {kind : NoticeKind} {r : SiteRecord} (h : r.serves) : (r.noticeEffect kind).serves := by
  rcases r.noticeEffect_cases kind with e | ⟨e, -⟩ | ⟨e, -⟩ | ⟨e, -⟩ <;> rw [e]
  · exact h
  all_goals exact ⟨nofun, nofun⟩

theorem State.putSite_serves {i j : SiteNo} {r : SiteRecord} (hr : (s.sites.get i).serves → r.serves)
    (h : (s.sites.get j).serves) : ((s.sites.set i r).get j).serves := by
  rw [Table.get_set]
  split
  next e => exact hr (e ▸ h)
  · exact h

theorem ZoneBody.mem_without {i : SiteNo} {b : ZoneBody} {m : SiteNo × Nat} :
    m ∈ (b.without i).members ↔ m ∈ b.members ∧ m.1 ≠ i := by
  simp [ZoneBody.without]

/-- A zone that loses a member stays lawful (R109, R114). -/
theorem ZoneBody.without_lawful {b : ZoneBody} (i : SiteNo) (h : b.lawful) : (b.without i).lawful := by
  obtain ⟨hnodup, hlen, htol, hp, hy⟩ := h
  refine ⟨?_, (List.length_filter_le ..).trans hlen, htol, fun m hm => hp m (ZoneBody.mem_without.mp hm).1, fun y hby => ?_⟩
  · exact hnodup.sublist (List.filter_sublist.map _)
  · have hby' : b.yieldMember ≠ some i ∧ b.yieldMember = some y := by simpa [ZoneBody.without] using hby
    obtain ⟨hne, hby'⟩ := hby'
    obtain ⟨m, hm, rfl⟩ := List.mem_map.mp (hy y hby')
    have hmi : m.1 ≠ i := fun e => hne (hby'.trans (congrArg some e))
    exact List.mem_map.mpr ⟨m, ZoneBody.mem_without.mpr ⟨hm, hmi⟩, rfl⟩

/-- What retirement leaves of a zone record: its body, which did not hold the site, or the body without the site (R114). -/
theorem ZoneRecord.withoutSite_cases (i : SiteNo) (z : ZoneRecord) :
    (z.holdsSite i = false ∧ z.withoutSite i = z)
      ∨ ∃ b, z.body = some b ∧ b.hasMember i = true
        ∧ z.withoutSite i = { body := some (b.without i), revision := z.revision + 1 } := by
  unfold ZoneRecord.withoutSite ZoneRecord.holdsSite
  cases z.body with
  | none => exact .inl ⟨rfl, rfl⟩
  | some b =>
    cases hm : b.hasMember i with
    | false => exact .inl ⟨hm, by simp [hm]⟩
    | true => exact .inr ⟨b, rfl, hm, by simp [hm]⟩

/-- A retiring site leaves every zone (R114), so that no zone holds a RETIRING site. -/
theorem zoneLaw_of_retired {i : SiteNo} (h : zoneLaw s) :
    zoneLaw ((s.putSite i (s.sites.get i).enterRetiring).removeFromZones i) := by
  intro z b hb
  have hothers {m : SiteNo × Nat} (hm : m.1 ≠ i) :
      ((s.putSite i (s.sites.get i).enterRetiring).removeFromZones i).sites.get m.1 = s.sites.get m.1 :=
    Table.get_set_ne _ hm _
  rw [State.removeFromZones_zones, Table.get_mapIdx, State.putSite_zones] at hb
  rcases ZoneRecord.withoutSite_cases i (s.zones.get z) with ⟨hno, e⟩ | ⟨b', hb', -, e⟩ <;> rw [e] at hb
  · obtain ⟨hlawful, hmembers⟩ := h z b hb
    refine ⟨hlawful, fun m hm => ?_⟩
    have hmi : m.1 ≠ i := fun e => by
      simp only [ZoneRecord.holdsSite, Option.mem_def.mp hb, ZoneBody.hasMember, List.any_eq_false, decide_eq_true_eq] at hno
      exact hno m hm e
    rw [hothers hmi]
    exact hmembers m hm
  · cases hb
    obtain ⟨hlawful, hmembers⟩ := h z b' hb'
    refine ⟨ZoneBody.without_lawful i hlawful, fun m hm => ?_⟩
    obtain ⟨hm, hmi⟩ := ZoneBody.mem_without.mp hm
    rw [hothers hmi]
    exact hmembers m hm

theorem Update.zoneLaw (h : Update s t) (hs : zoneLaw s) : zoneLaw t := by
  cases h with
  | time | port | resetUnit | choices | trunks | solver | published | attention | params | slots | posted => exact hs
  | growth g => exact zoneLaw_of_same (s := s) rfl (fun i hi => by simpa using SiteRecord.suspectTest_serves hi) hs
  | ceiling u => exact zoneLaw_of_same (s := s) rfl (fun i hi => by simpa using SiteRecord.suspectTest_serves hi) hs
  | driftThreshold d =>
    refine zoneLaw_of_same (s := s) rfl (fun i hi => ?_) hs
    have hr : ((s.sites.get i).redrift d).serves := hi
    simpa using hr
  | zone z b h =>
    intro z' b' hb'
    rw [State.putZone_zones, Table.get_set] at hb'
    split at hb'
    · exact h b' hb'
    · exact hs z' b' hb'
  | site i r hc hn hv hr =>
    exact zoneLaw_of_same (s := s) rfl (fun j => State.putSite_serves fun hi => ⟨hv, fun e => hi.2 (hr e)⟩) hs
  | retired i hv => exact zoneLaw_of_retired hs
  | noticeTaken i rest h => exact zoneLaw_of_same (s := s) rfl (fun j => State.putSite_serves id) hs
  | noticed i n hst hn =>
    refine zoneLaw_of_same (s := s) rfl (fun j => State.putSite_serves fun hi => ?_) hs
    exact SiteRecord.noticeEffect_serves (r := { s.sites.get i with notice := some n }) hi
  | reprobed k => exact zoneLaw_of_same (s := s) rfl (fun i hi => by simpa using SiteRecord.trunkDisabled_serves hi) hs
  | retireTest =>
    refine zoneLaw_of_same (s := s) rfl (fun i hi => ?_) hs
    rcases State.retireTest_vacates s i with e | ⟨hr, -⟩
    · rwa [e]
    · exact absurd hr hi.2
  | freed i =>
    unfold State.freeSlot
    split <;> exact hs

theorem StoresCleared.zoneLaw (h : StoresCleared t) : zoneLaw t := by
  intro z b hb
  rw [h.zones, Table.get_replicate] at hb
  cases hb

/-! ### Slots -/

/-- One record alone comes to satisfy `p`: one more does. -/
theorem count_of_one_more {α : Type} {n : Nat} {t u : Table α n} {p : α → Bool} {i : Fin n} (ht : p (t.get i) = false)
    (hu : p (u.get i) = true) (h : ∀ j, j ≠ i → p (u.get j) = p (t.get j)) : u.count p = t.count p + 1 := by
  have hcard (v : Table α n) : v.count p = (Finset.univ.filter fun j => p (v.get j) = true).card := by
    rw [Table.count_eq, Finset.card_def, Finset.filter_val, Fin.univ_def]
    simp
  have hins : (Finset.univ.filter fun j => p (u.get j) = true) = insert i (Finset.univ.filter fun j => p (t.get j) = true) := by
    ext j
    by_cases e : j = i
    · simp [e, hu]
    · simp [e, h j e]
  rw [hcard, hcard, hins, Finset.card_insert_of_notMem (by simp [ht])]

theorem count_of_same {α : Type} {n : Nat} {t u : Table α n} {p : α → Bool} (h : ∀ j, p (u.get j) = p (t.get j)) :
    u.count p = t.count p := by
  simp only [Table.count_eq, h]

/-- A slot that keeps its batch's tag and posting number is occupied as before (R147, R148). -/
theorem slotLaw_of_kept {x : Table (Option Batch) 8} (h : ∀ i, slotKept s.solver.latest (s.slots.get i) (x.get i))
    (hs : slotLaw s) : slotLaw (s.installSlots x) := by
  have hold {i : SlotNo} {b : Batch} (hb : b ∈ x.get i) : ∃ c ∈ s.slots.get i, c.tag = b.tag ∧ c.posting = b.posting := by
    obtain ⟨htag, hposting, -⟩ := h i
    rw [Option.mem_def.mp hb] at htag hposting
    obtain ⟨c, hc, e⟩ := Option.map_eq_some_iff.mp htag.symm
    rw [hc] at hposting
    exact ⟨c, hc, e, (Option.some.inj hposting).symm⟩
  have hcount : x.count Option.isSome = s.slots.count Option.isSome := by
    refine count_of_same fun j => ?_
    have hsome := congrArg Option.isSome (h j).1
    simpa using hsome
  intro i b hb
  obtain ⟨c, hc, htag, hposting⟩ := hold hb
  obtain ⟨hlt, hdistinct⟩ := hs i c hc
  refine ⟨?_, fun j d hd => ?_⟩
  · rw [State.installSlots_slots, hcount, ← hposting]
    exact hlt
  · obtain ⟨e, he, htag', hposting'⟩ := hold hd
    obtain ⟨hsame, hsame'⟩ := hdistinct j e he
    exact ⟨fun h => hsame (by rw [htag, h, htag']), fun h => hsame' (by rw [hposting, h, hposting'])⟩

/-- A batch accepted into a FREE slot has a tag of its own and the highest posting number (R148). -/
theorem slotLaw_of_posted {i : SlotNo} {b : Batch} (hi : s.slots.get i = none) (ht : ∀ j, ∀ c ∈ s.slots.get j, c.tag ≠ b.tag)
    (hp : b.posting = s.slots.count Option.isSome) (hs : slotLaw s) : slotLaw (s.putSlot i (some b)) := by
  have hcount : (s.slots.set i (some b)).count Option.isSome = s.slots.count Option.isSome + 1 :=
    count_of_one_more (i := i) (by rw [hi]; rfl) (by simp) fun j hj => by rw [Table.get_set_ne _ hj]
  have hcases {j : SlotNo} {c : Batch} (hc : c ∈ (s.slots.set i (some b)).get j) :
      (j = i ∧ c = b) ∨ (j ≠ i ∧ c ∈ s.slots.get j) := by
    rw [Table.get_set] at hc
    split at hc
    next e =>
      cases hc
      exact .inl ⟨e, rfl⟩
    next e => exact .inr ⟨e, hc⟩
  intro j c hc
  rw [State.putSlot_slots, hcount]
  rcases hcases hc with ⟨rfl, rfl⟩ | ⟨-, hc'⟩
  · refine ⟨by omega, fun k d hd => ?_⟩
    rcases hcases hd with ⟨rfl, rfl⟩ | ⟨-, hd⟩
    · exact ⟨fun _ => rfl, fun _ => rfl⟩
    · obtain ⟨hlt, -⟩ := hs k d hd
      exact ⟨fun h => absurd h.symm (ht k d hd), fun h => by omega⟩
  · obtain ⟨hlt, hdistinct⟩ := hs j c hc'
    refine ⟨by omega, fun k d hd => ?_⟩
    rcases hcases hd with ⟨-, rfl⟩ | ⟨-, hd⟩
    · exact ⟨fun h => absurd h (ht j c hc'), fun h => by omega⟩
    · exact hdistinct k d hd

/-- The batches accepted after a freed one move one place down, so that posting numbers stay distinct (R148). -/
theorem slotLaw_of_freed (i : SlotNo) (hs : slotLaw s) : slotLaw (s.freeSlot i) := by
  unfold State.freeSlot
  split
  next b hb =>
    generalize hx : (s.slots.mapIdx fun j o => if j = i then none
      else o.map fun c => if b.posting < c.posting then { c with posting := c.posting - 1 } else c) = x
    have hget (j : SlotNo) : x.get j = if j = i then none
        else (s.slots.get j).map fun c => if b.posting < c.posting then { c with posting := c.posting - 1 } else c := by
      rw [← hx, Table.get_mapIdx]
    have hcount : s.slots.count Option.isSome = x.count Option.isSome + 1 :=
      count_of_one_more (i := i) (by simp [hget]) (by rw [hb]; rfl) fun j hj => by simp [hget, hj]
    have hold {j : SlotNo} {c : Batch} (hc : c ∈ x.get j) : j ≠ i ∧ ∃ d ∈ s.slots.get j, c.tag = d.tag
        ∧ (b.posting < d.posting ∧ c.posting = d.posting - 1 ∨ d.posting ≤ b.posting ∧ c.posting = d.posting) := by
      rw [hget] at hc
      split at hc
      · cases hc
      next hj =>
        obtain ⟨d, hd, rfl⟩ := Option.map_eq_some_iff.mp hc
        refine ⟨hj, d, hd, ?_⟩
        split
        next h => exact ⟨rfl, .inl ⟨h, rfl⟩⟩
        next h => exact ⟨rfl, .inr ⟨by omega, rfl⟩⟩
    obtain ⟨hb', hdistinct⟩ := hs i b hb
    intro j c hc
    obtain ⟨hj, d, hd, htag, hposting⟩ := hold hc
    obtain ⟨hlt, hdistinct'⟩ := hs j d hd
    have hne : d.posting ≠ b.posting := fun e => hj ((hdistinct j d hd).2 e.symm).symm
    refine ⟨by rw [State.installSlots_slots]; omega, fun k e he => ?_⟩
    obtain ⟨hk, f, hf, htag', hposting'⟩ := hold he
    have hne' : f.posting ≠ b.posting := fun e => hk ((hdistinct k f hf).2 e.symm).symm
    obtain ⟨hsame, hsame'⟩ := hdistinct' k f hf
    exact ⟨fun h => hsame (by rw [← htag, h, htag']), fun h => hsame' (by omega)⟩
  · exact hs

theorem Update.slotLaw (h : Update s t) (hs : slotLaw s) : slotLaw t := by
  cases h with
  | slots x hkept => exact slotLaw_of_kept hkept hs
  | posted i b hi ht hp hb => exact slotLaw_of_posted hi ht hp hs
  | freed i => exact slotLaw_of_freed i hs
  | _ => exact hs

theorem StoresCleared.slotLaw (h : StoresCleared t) : slotLaw t := by
  intro i b hb
  rw [h.slot] at hb
  cases hb

end

/-- Settles O58: every update keeps the law of zones and the law of slots. -/
theorem everyStepKeepsZonesAndSlotsLawful : Obligations.EveryStepKeepsZonesAndSlotsLawful := fun _ _ h =>
  ⟨step_keeps (fun _ _ => id) (fun _ _ => Update.zoneLaw) (fun _ => StoresCleared.zoneLaw) h,
    step_keeps (fun _ _ => id) (fun _ _ => Update.slotLaw) (fun _ => StoresCleared.slotLaw) h⟩

end Sys2Proof.Machine
end

section
/-! The conditions stand at their sources, and outside READY the blocks stand at their reset values (O59). -/

namespace Sys2Proof.Machine

/-! ### The conditions under an update -/

section
variable {s t : State}

/-- Where some conditions follow their sources and the sources of the others stay, every condition agrees with its source. -/
theorem causesAgree_of_follow {l : List Cause} (hf : conditionsFollow l s t)
    (hrest : ∀ c, c ∉ l → c ≠ .step → (t.holdsCause c ↔ s.holdsCause c)) (hs : causesAgree s) : causesAgree t := by
  obtain ⟨-, -, hfollow⟩ := hf
  intro c hc
  have h := hfollow c
  split at h
  · exact h
  next hl => rw [h, hrest c hl hc]; exact hs c hc

/-- Where the attention unit and the sources stay, so does the agreement. -/
theorem causesAgree_of_same (ha : t.attention = s.attention) (h : ∀ c, c ≠ .step → (t.holdsCause c ↔ s.holdsCause c))
    (hs : causesAgree s) : causesAgree t := by
  intro c hc
  rw [ha, h c hc]
  exact hs c hc

theorem State.installSites_causesAgree (g : Nat) (x : Table SiteRecord 64) (hs : causesAgree s) :
    causesAgree (s.installSites g x) := by
  refine causesAgree_of_follow (State.installSites_conditionsFollow g x s) (fun c hl _ => ?_) hs
  cases c
  case suspect | holdover | drift => exact absurd (by decide) hl
  all_goals exact Iff.rfl

theorem State.setNoticeOrder_conditionsFollow (l : List SiteNo) (s : State) :
    conditionsFollow [.notice] s (s.setNoticeOrder l) := by
  refine ⟨rfl, rfl, fun c => ?_⟩
  cases c with
  | notice => simp [State.setNoticeOrder_attention, CauseSet.has, State.holdsCause]
  | _ => rfl

theorem State.setNoticeOrder_causesAgree (l : List SiteNo) (hs : causesAgree s) : causesAgree (s.setNoticeOrder l) := by
  refine causesAgree_of_follow (State.setNoticeOrder_conditionsFollow l s) (fun c hl _ => ?_) hs
  cases c
  case notice => exact absurd (by decide) hl
  all_goals exact Iff.rfl

theorem State.installSlots_conditionsFollow (x : Table (Option Batch) 8) (s : State) :
    conditionsFollow [.report] s (s.installSlots x) := by
  refine ⟨rfl, rfl, fun c => ?_⟩
  cases c with
  | report => simp [State.installSlots_attention, CauseSet.has, State.holdsCause, Table.any_iff]
  | _ => rfl

theorem State.installSlots_causesAgree (x : Table (Option Batch) 8) (hs : causesAgree s) : causesAgree (s.installSlots x) := by
  refine causesAgree_of_follow (State.installSlots_conditionsFollow x s) (fun c hl _ => ?_) hs
  cases c
  case report => exact absurd (by decide) hl
  all_goals exact Iff.rfl

theorem State.publish_conditionsFollow (n : Snapshot) (s : State) : conditionsFollow [.zone] s (s.publish n) := by
  refine ⟨rfl, rfl, fun c => ?_⟩
  cases c with
  | zone => simp [State.publish, State.setZoneCause, CauseSet.has, State.holdsCause, Plan.violatesZone]
  | _ => rfl

theorem State.publish_causesAgree (n : Snapshot) (hs : causesAgree s) : causesAgree (s.publish n) := by
  refine causesAgree_of_follow (State.publish_conditionsFollow n s) (fun c hl _ => ?_) hs
  cases c
  case zone => exact absurd (by decide) hl
  all_goals exact Iff.rfl

/-- Marks that agree but for CAL and STEP agree with their sources as before (R170). -/
theorem causesAgree_of_sameConditions {a : Attention} (h : s.attention.sameConditions a) (hs : causesAgree s) :
    causesAgree { s with attention := a } := by
  obtain ⟨hsame, hcal⟩ := h
  intro c hc
  by_cases e : c = .cal
  · subst e
    have hold : s.attention.present.cal = s.attention.calOutcome.isSome := Bool.eq_iff_iff.mpr (hs .cal hc)
    exact Bool.eq_iff_iff.mp (hcal hold)
  · rw [hsame c e hc, hs c hc]
    cases c
    case cal => exact absurd rfl e
    all_goals exact Iff.rfl

theorem Update.causesAgree (h : Update s t) (hs : causesAgree s) : causesAgree t := by
  cases h with
  | time | resetUnit | choices | trunks | params | zone =>
    exact causesAgree_of_same (s := s) rfl (fun c _ => by cases c <;> exact Iff.rfl) hs
  | port p h =>
    refine causesAgree_of_same (s := s) rfl (fun c _ => ?_) hs
    cases c
    case fault => simp only [State.holdsCause, h]
    all_goals exact Iff.rfl
  | solver v h =>
    refine causesAgree_of_same (s := s) rfl (fun c _ => ?_) hs
    cases c
    case zone => simp only [State.holdsCause, h]
    all_goals exact Iff.rfl
  | published n => exact State.publish_causesAgree n hs
  | attention a h => exact causesAgree_of_sameConditions h hs
  | growth g | ceiling u | driftThreshold d =>
    refine State.installSites_causesAgree _ _ (causesAgree_of_same (s := s) rfl (fun c _ => ?_) hs)
    cases c <;> exact Iff.rfl
  | site i r => exact State.installSites_causesAgree _ _ hs
  | retired i hv =>
    refine causesAgree_of_same rfl (fun c _ => ?_) (State.installSites_causesAgree s.config.growth _ hs)
    cases c <;> exact Iff.rfl
  | noticeTaken i rest h => exact State.setNoticeOrder_causesAgree rest (State.installSites_causesAgree _ _ hs)
  | noticed i n hst hn => exact State.setNoticeOrder_causesAgree _ (State.installSites_causesAgree _ _ hs)
  | reprobed k => exact State.installSites_causesAgree _ _ hs
  | retireTest => exact State.setNoticeOrder_causesAgree _ (State.installSites_causesAgree _ _ hs)
  | slots x h => exact State.installSlots_causesAgree x hs
  | posted i b => exact State.installSlots_causesAgree _ hs
  | freed i =>
    unfold State.freeSlot
    split
    · exact State.installSlots_causesAgree _ hs
    · exact hs

/-- Cleared stores hold no condition but FAULT and CAL. -/
theorem StoresCleared.causesAgree (h : StoresCleared t)
    (ha : t.attention = { Attention.cleared with present := { CauseSet.none with fault := decide (t.port.op = .fault) } }) :
    causesAgree t := by
  intro c hc
  rw [ha]
  cases c with
  | step => exact absurd rfl hc
  | fault => simp [CauseSet.has, State.holdsCause]
  | cal => simp [CauseSet.has, State.holdsCause, ha, Attention.cleared, CauseSet.none]
  | zone => simp [CauseSet.has, State.holdsCause, h.solver, Solver.cleared, CauseSet.none]
  | suspect | holdover =>
    simp only [CauseSet.has, State.holdsCause, CauseSet.none, h.site, Bool.false_eq_true, false_iff]
    rintro ⟨-, e⟩
    cases e
  | notice => simp [CauseSet.has, State.holdsCause, h.noticeOrder, CauseSet.none]
  | report =>
    simp only [CauseSet.has, State.holdsCause, CauseSet.none, h.slot, Bool.false_eq_true, false_iff]
    rintro ⟨-, e⟩
    cases e
  | drift =>
    simp only [CauseSet.has, State.holdsCause, CauseSet.none, h.site, Bool.false_eq_true, false_iff]
    rintro ⟨-, e⟩
    cases e

end

/-! ### The operating state under an update -/

theorem Update.op {s t : State} (h : Update s t) : t.port.op = s.port.op := by
  cases h with
  | port p h => exact h
  | freed i => exact congrArg CommandPort.op ((State.freeSlot_onlyChanges i s).2 .port (by decide))
  | _ => rfl

theorem Updates.op {s t : State} (h : Updates s t) : t.port.op = s.port.op :=
  h.keeps (P := fun u => u.port.op = s.port.op) (fun _ _ hu e => hu.op.trans e) rfl

/-! ### Nothing happens to quiet blocks -/

/-- The blocks hold their reset values, but for the raw count, the fraction, now and the FAULT condition (R180, R189). -/
def quietBlocks (s : State) : Prop :=
  s.sites = Table.replicate 64 SiteRecord.vacant ∧ s.noticeOrder = [] ∧ s.trunks = Table.replicate 8 Trunk.cleared
    ∧ s.zones = Table.replicate 32 ZoneRecord.cleared ∧ s.solver = Solver.cleared ∧ s.slots = Table.replicate 8 none
    ∧ s.config = Params.cleared ∧ s.time.cal = .uncalibrated ∧ s.time.last = none ∧ s.time.f = 4194304
    ∧ s.attention = { Attention.cleared with present := { CauseSet.none with fault := decide (s.port.op = .fault) } }

/-- Only the clock, the port and the reset unit move, and in them neither calibration nor the operating state; no command
frame begins while the part is held. -/
inductive Idles (s : State) : State → Prop
  | mk (x : TimeBase) (r : ResetUnit) (p : CommandPort) (n : Nat) (hcal : x.cal = s.time.cal) (hlast : x.last = s.time.last)
    (hf : x.f = s.time.f) (hop : p.op = s.port.op)
    (hframe : s.held = true → p.frameOpen = true → s.port.frameOpen = true) :
    Idles s { s with time := x, resetUnit := r, port := p, choices := n }

section
variable {s t : State}

theorem Idles.refl (s : State) : Idles s s := .mk s.time s.resetUnit s.port s.choices rfl rfl rfl rfl fun _ => id

theorem Idles.respond (a : Answer) (s : State) : Idles s (s.respond a) :=
  .mk s.time s.resetUnit _ s.choices rfl rfl rfl rfl nofun

theorem Idles.quietBlocks (h : Idles s t) (hs : quietBlocks s) : quietBlocks t := by
  obtain ⟨x, r, p, n, hcal, hlast, hf, hop, -⟩ := h
  obtain ⟨hsites, horder, htrunks, hzones, hsolver, hslots, hconfig, hscal, hslast, hsf, hatt⟩ := hs
  exact ⟨hsites, horder, htrunks, hzones, hsolver, hslots, hconfig, hcal.trans hscal, hlast.trans hslast, hf.trans hsf,
    by rw [hop]; exact hatt⟩

theorem Idles.command {k : CommandClass} {block : State → Answer × State} (h : (block s).2 = s) :
    Idles s (s.command k block) := by
  rcases State.command_cases k block s with ⟨-, e⟩ | ⟨code, -, -, e⟩ | ⟨-, -, e⟩ <;> rw [e]
  · exact .refl s
  · exact .respond _ s
  · rw [h]
    exact .respond _ s

/-- Outside READY a command taken in READY only is not taken. -/
theorem Idles.readyOnly {block : State → Answer × State} (h : s.port.op ≠ .ready) : Idles s (s.command .readyOnly block) := by
  rcases State.command_cases .readyOnly block s with ⟨-, e⟩ | ⟨code, -, -, e⟩ | ⟨-, hk, e⟩
  · rw [e]
    exact .refl s
  · rw [e]
    exact .respond _ s
  · cases hop : s.port.op <;> rw [hop] at hk
    case ready => exact absurd hop h
    all_goals cases hk

theorem Idles.releaseIfFree (r : ResetUnit) : Idles s (State.releaseIfFree { s with resetUnit := r }) := by
  unfold State.releaseIfFree
  split
  · exact .mk s.time r s.port s.choices rfl rfl rfl rfl fun _ => id
  · exact .mk s.time r _ s.choices rfl rfl rfl rfl fun _ => id

theorem CommandPort.raiseRdy_frameOpen (now : Instant) (p : CommandPort) : (p.raiseRdy now).frameOpen = p.frameOpen := by
  unfold CommandPort.raiseRdy
  split
  · split <;> rfl
  · rfl

theorem Idles.tick : Idles s { s with time := s.time.tick, port := s.port.raiseRdy s.time.tick.now } := by
  refine .mk _ s.resetUnit _ s.choices ?_ ?_ ?_ (CommandPort.raiseRdy_op _ _) fun _ => ?_
  · unfold TimeBase.tick
    split <;> rfl
  · unfold TimeBase.tick
    split <;> rfl
  · unfold TimeBase.tick
    split <;> rfl
  · rw [CommandPort.raiseRdy_frameOpen]
    exact id

theorem Idles.setCalPin (b : Bool) : Idles s (s.setCalPin b) :=
  .mk { s.time with calPin := b } s.resetUnit s.port s.choices rfl rfl rfl rfl fun _ => id

/-- On quiet blocks outside READY every command that is no reset moves at most the clock, the port and the reset unit. -/
theorem exec_idles {c : Instr} (hc : resets c = false) (hop : s.port.op ≠ .ready) (hq : quietBlocks s)
    (h : exec c s = .next t) : Idles s t := by
  obtain ⟨hsites, horder, htrunks, hzones, hsolver, hslots, hconfig, hcal, hlast, hf, hatt⟩ := hq
  have htrunk (k : TrunkNo) : s.trunks.get k = Trunk.cleared := by rw [htrunks, Table.get_replicate]
  have hslot (i : SlotNo) : s.slots.get i = none := by rw [hslots, Table.get_replicate]
  cases c with
  | powerOn | reset | init | selfTestEnd => cases hc
  | resetRelease | powerOnResetRelease =>
    cases h
    split
    · exact Idles.releaseIfFree _
    · exact .refl s
  | oscillatorTick =>
    cases h
    split
    · split
      · exact .mk s.time _ s.port s.choices rfl rfl rfl rfl fun _ => id
      · exact .refl s
    · exact Idles.tick
  | calRisingEdge =>
    simp only [exec, execCalRisingEdge, hcal] at h
    cases h
    split
    · exact .refl s
    · exact Idles.setCalPin true
  | calFallingEdge =>
    simp only [exec, execCalFallingEdge, hcal] at h
    cases h
    split
    · exact .refl s
    · exact Idles.setCalPin false
  | calWindowExpiry =>
    simp only [exec, execCalWindowExpiry, hcal] at h
    cases h
    exact .refl s
  | pendingFrame =>
    cases h
    split
    · exact .mk s.time s.resetUnit _ s.choices rfl rfl rfl rfl fun _ => id
    · exact .refl s
  | commandFrameStart =>
    cases h
    split
    next hstart =>
      refine .mk s.time s.resetUnit _ s.choices rfl rfl rfl rfl fun hheld => ?_
      simp [hheld] at hstart
    · exact .refl s
  | badCommandFrame bits =>
    cases h
    split
    · exact Idles.command rfl
    · exact Idles.command rfl
    · exact Idles.command rfl
    · exact .refl s
  | nop | status =>
    cases h
    exact Idles.command rfl
  | ack | configSetHorizon | configSetJumpLimit | configSetProbePeriod | configSetProbeTimeout | configSetHoldoverGrowth
      | configSetUncertaintyCeiling | configSetLaunchSpacing | configSetDriftThreshold | configSetAttentionMask | configGet
      | trunkSet | trunkGet | calStart | timeRead | siteAdmit | siteAmend | siteRead | siteSuspend | siteResume | siteRetire
      | zoneDefine | zoneDelete | zoneRead | planRead | batchPost | batchWithdraw | batchReport | noticeTake =>
    cases h
    exact Idles.readyOnly hop
  | slotDeadlineExpiry k =>
    simp only [exec, execSlotDeadlineExpiry, htrunk] at h
    cases h
    exact .refl s
  | probeFrameStart k =>
    simp only [exec, execProbeFrameStart, htrunk] at h
    cases h
    exact .refl s
  | batchFrameStart k =>
    simp only [exec, execBatchFrameStart, htrunk] at h
    cases h
    exact .refl s
  | noticeReplyStart k =>
    simp only [exec, execNoticeReplyStart, htrunk] at h
    cases h
    exact .refl s
  | frameEnd k =>
    simp only [exec, execFrameEnd, htrunk] at h
    cases h
    exact .refl s
  | echoTaken k bits =>
    simp only [exec, execEchoTaken, htrunk] at h
    cases h
    split <;> exact .refl s
  | noticeArrival k bits =>
    simp only [exec, execNoticeArrival, htrunk] at h
    cases h
    split
    · next hfr _ => cases hfr
    · exact .refl s
  | receiveFrameDiscard k bits stop =>
    simp only [exec, execReceiveFrameDiscard, htrunk] at h
    cases h
    split
    · next hfr _ => cases hfr
    · exact .refl s
  | receiveGap k ticks =>
    simp only [exec, execReceiveGap, htrunk] at h
    cases h
    split
    · next hfr _ => cases hfr
    · exact .refl s
  | delimiterFound k line =>
    simp only [exec, execDelimiterFound, htrunk] at h
    cases h
    split
    · next hfr _ _ => cases hfr
    · exact .refl s
  | probeTimeoutExpiry k =>
    simp only [exec, execProbeTimeoutExpiry, htrunk] at h
    cases h
    exact .refl s
  | benchEchoDelivery k =>
    simp only [exec, execBenchEchoDelivery, htrunk] at h
    cases h
    split
    · next hen _ _ => cases hen
    · exact .refl s
  | dispatchDeadlineExpiry =>
    cases h
    split
    · exact .refl s
    · rw [hslot]
      exact .refl s
  | settleDeadlineExpiry i =>
    simp only [exec, execSettleDeadlineExpiry, hslot] at h
    cases h
    exact .refl s
  | solveStart =>
    simp only [exec, execSolveStart, hsolver] at h
    cases h
    exact .refl s
  | solveCompletion =>
    simp only [exec, execSolveCompletion, hsolver] at h
    cases h
    exact .refl s

/-! ### The part is held -/

/-- A command that is no reset holds the part in reset only where it was held. -/
theorem exec_held {c : Instr} (hc : resets c = false) (h : exec c s = .next t) (ht : t.held = true) : s.held = true := by
  by_cases hp : Part.resetUnit ∈ blocksOf c
  · cases c with
    | powerOn | reset => cases hc
    | resetRelease =>
      cases h
      split at ht
      · have hpor : s.resetUnit.por = true := by
          unfold State.releaseIfFree at ht
          split at ht <;> simpa [State.held] using ht
        simp [State.held, hpor]
      · exact ht
    | powerOnResetRelease =>
      cases h
      split at ht
      next hpor => simp [State.held, hpor.1]
      · exact ht
    | oscillatorTick =>
      cases h
      split at ht
      next hheld => exact hheld
      · exact ht
    | _ => simp [blocksOf] at hp
  · have hunit : t.resetUnit = s.resetUnit := (exec_onlyChanges h).2 .resetUnit hp
    rwa [State.held, hunit] at ht

/-! ### Outside READY -/

theorem quietOutsideReady_iff (s : State) :
    quietOutsideReady s ↔
      (s.held = true → s.port.op = .uninit ∧ s.port.frameOpen = false) ∧ (s.port.op ≠ .ready → quietBlocks s) := Iff.rfl

theorem State.clearBlocks_quietBlocks {t : State} (h : blocksCleared s t) (hop : t.port.op ≠ .fault) : quietBlocks t := by
  obtain ⟨htime, hsites, horder, htrunks, hzones, hsolver, hslots, hatt, hconfig⟩ := h
  refine ⟨hsites, horder, htrunks, hzones, hsolver, hslots, hconfig, ?_, ?_, ?_, ?_⟩
  · rw [htime]
    rfl
  · rw [htime]
    rfl
  · rw [htime]
    rfl
  · rw [hatt, decide_eq_false hop]
    rfl

/-- Blocks that a reset clears agree with their causes. -/
theorem causesAgree_of_cleared {t : State} (h : blocksCleared s t) (hop : t.port.op ≠ .fault) : causesAgree t := by
  obtain ⟨hsites, horder, -, hzones, hsolver, hslots, -, -, -, -, hatt⟩ := State.clearBlocks_quietBlocks h hop
  exact StoresCleared.causesAgree ⟨hsites, horder, hzones, hsolver, hslots⟩ hatt

theorem exec_nonreset_keeps_quiet {c : Instr} (hc : resets c = false) (hq : quietOutsideReady s) (h : exec c s = .next t) :
    quietOutsideReady t := by
  have hop : t.port.op = s.port.op := (exec_updates hc s t h).op
  obtain ⟨hheld, hblocks⟩ := hq
  refine (quietOutsideReady_iff t).mpr ⟨fun ht => ?_, fun ht => ?_⟩
  · have hs := exec_held hc h ht
    obtain ⟨huninit, hframe⟩ := hheld hs
    have hne : s.port.op ≠ .ready := by rw [huninit]; decide
    refine ⟨hop.trans huninit, ?_⟩
    obtain ⟨x, r, p, n, -, -, -, -, hopen⟩ := exec_idles hc hne (hblocks hne) h
    by_contra hp
    have hp' := hopen hs (by simpa using hp)
    rw [hframe] at hp'
    cases hp'
  · rw [hop] at ht
    exact (exec_idles hc ht (hblocks ht) h).quietBlocks (hblocks ht)

theorem execSelfTestEnd_keeps (siteOk zoneOk planOk batchOk : Bool) (hq : quietOutsideReady s) (hcauses : causesAgree s)
    (h : execSelfTestEnd siteOk zoneOk planOk batchOk s = .next t) : quietOutsideReady t ∧ causesAgree t := by
  obtain ⟨hheld, hblocks⟩ := hq
  cases h
  by_cases htest : s.port.op = .testing
  · rw [if_pos htest]
    have hfree : s.held = true → False := fun hs => by
      have hop := (hheld hs).1
      rw [htest] at hop
      cases hop
    obtain ⟨-, -, htrunks, -, -, -, hconfig, hcal, hlast, hf, hatt⟩ := hblocks (by rw [htest]; decide)
    have hclear : s.attention = Attention.cleared := by
      rw [hatt, htest]
      rfl
    split
    · refine ⟨⟨fun hs => absurd hs hfree, fun hne => absurd rfl hne⟩, ?_⟩
      exact StoresCleared.causesAgree ⟨rfl, rfl, rfl, rfl, rfl⟩ hclear
    next x _ =>
      have hfault : (State.setFaultCause true
          { s.clearStores with port := { s.port with op := .fault, failing := some x } }).attention
          = { Attention.cleared with present := { CauseSet.none with fault := true } } := by
        show { s.attention with present := { s.attention.present with fault := true } } = _
        rw [hclear]
        rfl
      refine ⟨⟨fun hs => absurd hs hfree, fun _ => ?_⟩, ?_⟩
      · exact ⟨rfl, rfl, htrunks, rfl, rfl, rfl, hconfig, hcal, hlast, hf, hfault⟩
      · exact StoresCleared.causesAgree ⟨rfl, rfl, rfl, rfl, rfl⟩ hfault
  · rw [if_neg htest]
    exact ⟨⟨hheld, hblocks⟩, hcauses⟩

theorem execInit_keeps (mode selfTest : Byte) (hq : quietOutsideReady s) (hcauses : causesAgree s)
    (h : execInit mode selfTest s = .next t) : quietOutsideReady t ∧ causesAgree t := by
  have hanswer (a : Answer) : quietOutsideReady (s.respond a) ∧ causesAgree (s.respond a) := by
    refine ⟨⟨fun hs => ⟨(hq.1 hs).1, rfl⟩, fun hne => ?_⟩, (State.respond_updates s a).causesAgree hcauses⟩
    exact (Idles.respond a s).quietBlocks (hq.2 hne)
  cases h
  rcases State.command_cases .initial (initBlock mode selfTest) s with ⟨-, e⟩ | ⟨code, -, -, e⟩ | ⟨hopen, -, e⟩ <;> rw [e]
  · exact ⟨hq, hcauses⟩
  · exact hanswer _
  · unfold initBlock
    split
    · exact hanswer _
    · have hfree : s.held = true → False := fun hs => by
        have hframe := (hq.1 hs).2
        rw [hopen] at hframe
        cases hframe
      have hop : (if isYes selfTest then OpState.testing else .ready) ≠ .fault := by split <;> decide
      exact ⟨⟨fun hs => absurd hs hfree, fun _ => State.clearBlocks_quietBlocks (s := s) ⟨rfl, rfl, rfl, rfl, rfl, rfl, rfl, rfl, rfl⟩ hop⟩,
        causesAgree_of_cleared (s := s) ⟨rfl, rfl, rfl, rfl, rfl, rfl, rfl, rfl, rfl⟩ hop⟩

theorem State.clearAll_keeps (s : State) (r : ResetUnit) :
    quietOutsideReady { s.clearAll with resetUnit := r } ∧ causesAgree { s.clearAll with resetUnit := r } := by
  have hcleared : blocksCleared s { s.clearAll with resetUnit := r } := ⟨rfl, rfl, rfl, rfl, rfl, rfl, rfl, rfl, rfl⟩
  exact ⟨⟨fun _ => ⟨rfl, rfl⟩, fun _ => State.clearBlocks_quietBlocks hcleared nofun⟩, causesAgree_of_cleared hcleared nofun⟩

/-- Every command keeps the blocks quiet outside READY, and the conditions at their sources. -/
theorem exec_keeps_quiet {c : Instr} (hq : quietOutsideReady s) (hcauses : causesAgree s) (h : exec c s = .next t) :
    quietOutsideReady t ∧ causesAgree t := by
  by_cases hc : resets c = true
  · cases c with
    | powerOn | reset =>
      cases h
      exact State.clearAll_keeps s _
    | init mode selfTest => exact execInit_keeps mode selfTest hq hcauses h
    | selfTestEnd siteOk zoneOk planOk batchOk => exact execSelfTestEnd_keeps siteOk zoneOk planOk batchOk hq hcauses h
    | _ => cases hc
  · have hc : resets c = false := by simpa using hc
    exact ⟨exec_nonreset_keeps_quiet hc hq h, (exec_updates hc s t h).keeps (fun _ _ => Update.causesAgree) hcauses⟩

end

/-- Settles O59: a reset clears both sides, and outside READY no other command reaches a block; the conditions follow their
sources with every update. -/
theorem everyStepKeepsConditionsAtTheirSources : Obligations.EveryStepKeepsConditionsAtTheirSources := by
  intro s t hq hcauses h
  rcases step_cases h with rfl | ⟨c, q, hexec⟩
  · exact ⟨hq, hcauses⟩
  · exact exec_keeps_quiet (s := { s with pending := q }) hq hcauses hexec

end Sys2Proof.Machine
end

section
/-! What a plan reads changes only together with a stale mark (O60). -/

namespace Sys2Proof.Machine

/-! ### What a snapshot reads of a record -/

section
variable {s t : State} {i : SiteNo} {l : Link}

/-- Launch-eligible: in ALIGNED or HOLDOVER on an enabled trunk (R17). -/
theorem State.launchEligible_iff (s : State) (i : SiteNo) :
    s.launchEligible i = true ↔ ((s.sites.get i).state = .aligned ∨ (s.sites.get i).state = .holdover)
      ∧ ∃ l, (s.sites.get i).link = some l ∧ (s.trunks.get l.trunk).enable = true := by
  have hlaunches : (s.sites.get i).phase.launches = true
      ↔ (s.sites.get i).state = .aligned ∨ (s.sites.get i).state = .holdover := by
    cases h : (s.sites.get i).phase <;> simp [SiteRecord.state, SitePhase.state, SitePhase.launches, h]
  rw [← hlaunches]
  unfold State.launchEligible
  cases hl : (s.sites.get i).link with
  | none => simp [hl]
  | some l => simp [hl]

/-- The snapshot holds a launch-eligible site with what it reads of the record (R126). -/
theorem State.snapSite_of_eligible (hl : (s.sites.get i).link = some l) (he : s.launchEligible i = true) :
    s.snapSite i = .eligible { trunk := l.trunk, address := l.address, d := (s.sites.get i).d, trim := l.trim
                               u := ((s.sites.get i).u s.config.growth).getD 0 } := by
  simp only [State.snapSite, hl, he]

/-- The snapshot holds any other site with its reason (R126). -/
theorem State.snapSite_of_ineligible (he : s.launchEligible i = false) :
    s.snapSite i = .ineligible (if (s.sites.get i).state = .vacant then .vacant else .state) := by
  unfold State.snapSite
  dsimp only
  split
  next h =>
    rw [he] at h
    cases h
  · rfl

/-- The snapshot reads of a record no more than the plan's view of it (R23). -/
theorem State.snapSite_congr
    (hview : (t.sites.get i).planView t.config.growth = (s.sites.get i).planView s.config.growth)
    (henable : ∀ k, (t.trunks.get k).enable = (s.trunks.get k).enable) : t.snapSite i = s.snapSite i := by
  have hstate : (t.sites.get i).state = (s.sites.get i).state := congrArg PlanView.state hview
  have hplace : (t.sites.get i).link.map (fun l => (l.trunk, l.address)) = (s.sites.get i).link.map fun l => (l.trunk, l.address) :=
    congrArg PlanView.place hview
  have htrim : (t.sites.get i).link.map Link.trim = (s.sites.get i).link.map Link.trim := congrArg PlanView.trim hview
  have hd : (t.sites.get i).est.map Estimate.d = (s.sites.get i).est.map Estimate.d := congrArg PlanView.d hview
  have hu : (t.sites.get i).u t.config.growth = (s.sites.get i).u s.config.growth := congrArg PlanView.u hview
  cases hs : (s.sites.get i).link with
  | none =>
    have ht : (t.sites.get i).link = none := by simpa [hs] using hplace
    have hno {u : State} (h : (u.sites.get i).link = none) : u.launchEligible i = false := by
      by_contra he
      obtain ⟨-, l, hl, -⟩ := (u.launchEligible_iff i).mp (by simpa using he)
      rw [h] at hl
      cases hl
    rw [State.snapSite_of_ineligible (hno hs), State.snapSite_of_ineligible (hno ht), hstate]
  | some l =>
    obtain ⟨l', ht, hplace'⟩ : ∃ l', (t.sites.get i).link = some l' ∧ (l'.trunk, l'.address) = (l.trunk, l.address) := by
      simpa [hs] using hplace
    obtain ⟨htrunk, haddress⟩ := Prod.mk.inj hplace'
    have htrim' : l'.trim = l.trim := by simpa [hs, ht] using htrim
    have helig : t.launchEligible i = s.launchEligible i := by
      rw [Bool.eq_iff_iff, State.launchEligible_iff, State.launchEligible_iff, hstate, hs, ht]
      simp [htrunk, henable]
    cases he : s.launchEligible i with
    | true =>
      rw [State.snapSite_of_eligible hs he, State.snapSite_of_eligible ht (helig.trans he), htrunk, haddress, htrim', hu,
        SiteRecord.d, SiteRecord.d, hd]
    | false => rw [State.snapSite_of_ineligible he, State.snapSite_of_ineligible (helig.trans he), hstate]

end

/-- What a plan reads is the same where the plan's view of every record, the enables, the zones, the horizon and the
calibration are. -/
theorem planInputs_congr {s t : State}
    (hview : ∀ i, (t.sites.get i).planView t.config.growth = (s.sites.get i).planView s.config.growth)
    (henable : ∀ k, (t.trunks.get k).enable = (s.trunks.get k).enable) (hz : t.zones = s.zones)
    (hh : t.config.horizon = s.config.horizon) (hc : t.time.cal.answer = s.time.cal.answer) :
    planInputs t = planInputs s := by
  have hsites : Table.tabulate t.snapSite = Table.tabulate s.snapSite := by
    refine Table.ext_get fun i => ?_
    rw [Table.get_tabulate, Table.get_tabulate, State.snapSite_congr (hview i) henable]
  have henables : (t.trunks.mapIdx fun _ tr => tr.enable) = s.trunks.mapIdx fun _ tr => tr.enable :=
    Table.ext_get fun k => by rw [Table.get_mapIdx, Table.get_mapIdx, henable]
  simp only [planInputs, State.snapshot, hsites, henables, State.snapZones, hz, hh, hc]

/-! ### The stale mark tracks what a plan reads -/

/-- The flag stays set, and it is set where what a plan reads differs (R123, R124). -/
def tracksStale (s t : State) : Prop :=
  (s.solver.stale = true → t.solver.stale = true) ∧ (t.solver.stale = true ∨ planInputs t = planInputs s)

section
variable {s t u : State}

theorem tracksStale.refl (s : State) : tracksStale s s := ⟨id, .inr rfl⟩

theorem tracksStale.of_stale (h : t.solver.stale = true) : tracksStale s t := ⟨fun _ => h, .inl h⟩

theorem tracksStale.trans (h : tracksStale s t) (k : tracksStale t u) : tracksStale s u := by
  refine ⟨fun hs => k.1 (h.1 hs), ?_⟩
  rcases k.2 with k' | k'
  · exact .inl k'
  · exact h.2.imp k.1 k'.trans

theorem tracksStale.of_inputs (h : t.solver.stale = s.solver.stale) (k : planInputs t = planInputs s) : tracksStale s t :=
  ⟨fun hs => h.trans hs, .inr k⟩

theorem tracksStale.foldl {α : Type} (f : State → α → State) (h : ∀ s a, tracksStale s (f s a)) (l : List α) (s : State) :
    tracksStale s (l.foldl f s) := by
  induction l generalizing s with
  | nil => exact .refl s
  | cons a l ih => exact (h s a).trans (ih (f s a))

theorem tracksStale.respond (a : Answer) (s : State) : tracksStale s (s.respond a) := ⟨id, .inr rfl⟩

/-- A controller's record changes that keeps its enable. -/
theorem State.putTrunk_tracks {k : TrunkNo} {tr : Trunk} (h : tr.enable = (s.trunks.get k).enable) :
    tracksStale s (s.putTrunk k tr) := by
  refine .of_inputs rfl (planInputs_congr (fun _ => rfl) (fun j => ?_) rfl rfl rfl)
  rw [State.putTrunk_trunks, Table.get_set]
  split
  next e => rw [h, e]
  · rfl

/-- A new content of the site table marks the plan stale where the plan's view of a record changes (R23). -/
theorem State.installSites_tracks {p : Params} {x : Table SiteRecord 64} (hh : p.horizon = s.config.horizon) :
    tracksStale s ((s.setParams p).installSites s.config.growth x) := by
  refine ⟨fun h => ?_, ?_⟩
  · rw [State.installSites_stale]
    exact Bool.or_eq_true_iff.mpr (.inl h)
  · by_cases hchange : sitesChangePlan s.config.growth p.growth s.sites x = true
    · exact .inl (Bool.or_eq_true_iff.mpr (.inr hchange))
    · refine .inr (planInputs_congr (fun i => ?_) (fun _ => rfl) rfl hh rfl)
      simp only [sitesChangePlan, List.any_eq_true, not_exists, not_and, decide_eq_true_eq, not_not] at hchange
      exact (hchange i (List.mem_finRange i)).symm

theorem State.putSite_tracks (i : SiteNo) (r : SiteRecord) (s : State) : tracksStale s (s.putSite i r) :=
  State.installSites_tracks (p := s.config) rfl

theorem State.mapSites_tracks (f : SiteNo → SiteRecord → SiteRecord) (s : State) : tracksStale s (s.mapSites f) :=
  State.installSites_tracks (p := s.config) rfl

theorem State.setNoticeOrder_tracks (l : List SiteNo) (s : State) : tracksStale s (s.setNoticeOrder l) := ⟨id, .inr rfl⟩

theorem State.installSlots_tracks (x : Table (Option Batch) 8) (s : State) : tracksStale s (s.installSlots x) := ⟨id, .inr rfl⟩

theorem State.retireTest_tracks (s : State) : tracksStale s s.retireTest :=
  (State.mapSites_tracks _ s).trans (State.setNoticeOrder_tracks _ _)

theorem State.queueFrames_tracks (i : SlotNo) (l : List HoldList) (s : State) : tracksStale s (s.queueFrames i l) := by
  refine .of_inputs rfl (planInputs_congr (fun _ => rfl) (fun k => ?_) rfl rfl rfl)
  simp only [State.queueFrames, Table.get_mapIdx]
  split <;> rfl

theorem State.dispatch_tracks (i : SlotNo) (s : State) : tracksStale s (s.dispatch i) := by
  unfold State.dispatch
  split
  · split
    · exact State.installSlots_tracks _ s
    · dsimp only
      split
      · exact State.installSlots_tracks _ s
      · exact (State.installSlots_tracks _ s).trans (State.queueFrames_tracks ..)
  · exact .refl s

theorem State.finish_tracks (i : SlotNo) (b : Batch) (x : Dispatched) (s : State) : tracksStale s (s.finish i b x) :=
  (State.installSlots_tracks _ s).trans (State.retireTest_tracks _)

theorem State.frameEnded_tracks (k : TrunkNo) (sent : Bool) (i : SlotNo) (s : State) : tracksStale s (s.frameEnded k sent i) := by
  unfold State.frameEnded
  split
  · split
    · dsimp only
      split
      · simp only [State.enterInFlight]
        split
        · exact State.installSlots_tracks _ s
        · exact State.finish_tracks ..
      · exact State.installSlots_tracks _ s
    all_goals exact .refl s
  · exact .refl s

theorem State.freeSlot_tracks (i : SlotNo) (s : State) : tracksStale s (s.freeSlot i) := by
  unfold State.freeSlot
  split
  · exact State.installSlots_tracks _ s
  · exact .refl s

theorem State.setParams_tracks {p : Params} (hg : p.growth = s.config.growth) (hh : p.horizon = s.config.horizon) :
    tracksStale s (s.setParams p) := by
  refine .of_inputs rfl (planInputs_congr (fun i => ?_) (fun _ => rfl) rfl hh rfl)
  rw [State.setParams_config, hg]
  rfl

theorem State.removeFromZones_tracks (i : SiteNo) (s : State) : tracksStale s (s.removeFromZones i) := by
  by_cases h : s.zones.any (ZoneRecord.holdsSite i) = true
  · exact .of_stale (Bool.or_eq_true_iff.mpr (.inr h))
  · have hzones : (s.removeFromZones i).zones = s.zones := by
      refine Table.ext_get fun z => ?_
      rw [State.removeFromZones_zones, Table.get_mapIdx]
      rcases ZoneRecord.withoutSite_cases i (s.zones.get z) with ⟨-, e⟩ | ⟨b, hb, hm, -⟩
      · exact e
      · exact absurd ((Table.any_iff _ _).mpr ⟨z, by simp [ZoneRecord.holdsSite, hb, hm]⟩) h
    refine ⟨fun hs => ?_, .inr (planInputs_congr (fun _ => rfl) (fun _ => rfl) hzones rfl rfl)⟩
    exact Bool.or_eq_true_iff.mpr (.inl hs)

theorem State.storeNotice_tracks (i : SiteNo) (n : Notice) (s : State) : tracksStale s (s.storeNotice i n) :=
  (State.putSite_tracks _ _ s).trans (State.setNoticeOrder_tracks _ _)

theorem State.applyNotice_tracks (k : TrunkNo) (a q : Byte) (d : BitVec 16) (x : Instant) (s : State) :
    tracksStale s (s.applyNotice k a q d x) := by
  unfold State.applyNotice
  split
  · split
    · exact .refl s
    · exact State.storeNotice_tracks ..
  · exact .refl s

theorem State.echoResult_tracks (i : SiteNo) (loop turnaround : Nat) (s : State) :
    tracksStale s (s.echoResult i loop turnaround) := by
  unfold State.echoResult
  dsimp only
  split
  · exact State.putSite_tracks ..
  · refine (State.putSite_tracks _ _ s).trans ⟨fun h => ?_, .inr rfl⟩
    exact Bool.or_eq_true_iff.mpr (.inl h)

theorem State.matchEcho_tracks (k : TrunkNo) (a q : Byte) (v : BitVec 16) (x : Instant) (s : State) :
    tracksStale s (s.matchEcho k a q v x) := by
  unfold State.matchEcho
  dsimp only
  split
  · split
    · split
      · refine .trans ?_ (State.echoResult_tracks ..)
        exact State.putTrunk_tracks rfl
      · exact State.putTrunk_tracks rfl
    · exact State.putTrunk_tracks rfl
  · exact State.putTrunk_tracks rfl

theorem State.applyHorizon_stale (h : Nat) (hs : s.solver.stale = true) : (s.applyHorizon h).solver.stale = true := by
  have hsame : (s.applyHorizon h).solver = s.solver := (State.applyHorizon_onlyChanges h s).2 .solver (by decide)
  rwa [hsame]

theorem State.configureTrunk_tracks (k : TrunkNo) (e : Bool) (r : BitRate) (g : Granularity) (d : Nat) (s : State) :
    tracksStale s (s.configureTrunk k e r g d) := by
  have hput : tracksStale s (s.putTrunk k ((s.trunks.get k).configured r g d)) := State.putTrunk_tracks rfl
  unfold State.configureTrunk
  dsimp only
  split
  · exact .of_stale rfl
  · exact .of_stale rfl
  · exact hput
  · exact hput

/-- A time base that answers as before leaves what a plan reads. -/
theorem State.setTime_tracks {x : TimeBase} (h : x.cal.answer = s.time.cal.answer) : tracksStale s { s with time := x } :=
  .of_inputs rfl (planInputs_congr (fun _ => rfl) (fun _ => rfl) rfl rfl h)

theorem State.command_tracks {k : CommandClass} {block : State → Answer × State} (h : tracksStale s (block s).2) :
    tracksStale s (s.command k block) := by
  rcases State.command_cases k block s with ⟨-, e⟩ | ⟨code, -, -, e⟩ | ⟨-, -, e⟩ <;> rw [e]
  · exact .refl s
  · exact .respond _ s
  · exact h.trans (.respond _ _)

/-! ### The blocks of host commands -/

theorem horizonBlock_tracks (value : BitVec 32) (s : State) : tracksStale s (horizonBlock value s).2 := by
  simp only [horizonBlock]
  split
  · exact .refl s
  · exact .of_stale (State.applyHorizon_stale _ rfl)

theorem growthBlock_tracks (value : BitVec 32) (s : State) : tracksStale s (growthBlock value s).2 := by
  simp only [growthBlock]
  split
  · exact .refl s
  · exact State.installSites_tracks rfl

theorem ceilingBlock_tracks (value : BitVec 32) (s : State) : tracksStale s (ceilingBlock value s).2 := by
  simp only [ceilingBlock]
  split
  · exact .refl s
  · exact State.installSites_tracks (p := { s.config with ceiling := _ }) rfl

theorem driftBlock_tracks (value : BitVec 32) (s : State) : tracksStale s (driftBlock value s).2 := by
  simp only [driftBlock]
  split
  · exact .refl s
  · exact State.installSites_tracks (p := { s.config with driftThreshold := _ }) rfl

theorem probePeriodBlock_tracks (value : BitVec 32) (s : State) : tracksStale s (probePeriodBlock value s).2 := by
  simp only [probePeriodBlock]
  split
  · exact State.setParams_tracks rfl rfl
  · exact .refl s

theorem probeTimeoutBlock_tracks (value : BitVec 32) (s : State) : tracksStale s (probeTimeoutBlock value s).2 := by
  simp only [probeTimeoutBlock]
  split
  · exact State.setParams_tracks rfl rfl
  · exact .refl s

theorem trunkSetBlock_tracks (trunk enable gran : Byte) (rate benchDelay : BitVec 24) (s : State) :
    tracksStale s (trunkSetBlock trunk enable rate gran benchDelay s).2 := by
  unfold trunkSetBlock
  split
  · exact .refl s
  · split
    · dsimp only
      split
      · exact .refl s
      · exact State.configureTrunk_tracks ..
    · exact .refl s

theorem calStartBlock_tracks (e : BitVec 24) (s : State) : tracksStale s (calStartBlock e s).2 := by
  by_cases h : ∃ m, s.time.cal = .measuring m
  · obtain ⟨m, hm⟩ := h
    rw [calStartBlock_of_measuring hm]
    exact .refl s
  · rw [calStartBlock_of_not_measuring fun m hm => h ⟨m, hm⟩]
    split
    · exact .refl s
    · exact .of_stale rfl

theorem siteAdmitBlock_tracks (site trunk address : Byte) (asym : BitVec 16) (trim : BitVec 24) (s : State) :
    tracksStale s (siteAdmitBlock site trunk address asym trim s).2 := by
  fun_cases siteAdmitBlock <;> first | exact .refl s | exact State.putSite_tracks ..

theorem siteAmendBlock_tracks (site mask trunk address : Byte) (asym : BitVec 16) (trim : BitVec 24) (s : State) :
    tracksStale s (siteAmendBlock site mask asym trim trunk address s).2 := by
  fun_cases siteAmendBlock <;> first | exact .refl s | exact State.putSite_tracks ..

theorem siteReadBlock_tracks (site acknowledge : Byte) (s : State) : tracksStale s (siteReadBlock site acknowledge s).2 := by
  unfold siteReadBlock
  split
  · exact .refl s
  · dsimp only
    split
    · exact .refl s
    · dsimp only
      split
      · exact State.putSite_tracks ..
      · exact .refl s

theorem siteSuspendBlock_tracks (site : Byte) (s : State) : tracksStale s (siteSuspendBlock site s).2 := by
  fun_cases siteSuspendBlock <;> first | exact .refl s | exact State.putSite_tracks ..

theorem siteResumeBlock_tracks (site : Byte) (s : State) : tracksStale s (siteResumeBlock site s).2 := by
  fun_cases siteResumeBlock <;> first | exact .refl s | exact State.putSite_tracks ..

theorem siteRetireBlock_tracks (site : Byte) (s : State) : tracksStale s (siteRetireBlock site s).2 := by
  fun_cases siteRetireBlock <;>
    first | exact .refl s | exact (State.putSite_tracks _ _ s).trans (State.removeFromZones_tracks _ _)

theorem noticeTakeBlock_tracks (s : State) : tracksStale s (noticeTakeBlock s).2 := by
  fun_cases noticeTakeBlock <;>
    first | exact .refl s | exact (State.putSite_tracks _ _ s).trans (State.setNoticeOrder_tracks _ _)

theorem zoneDefineBlock_tracks (zone y : Byte) (tolerance : BitVec 16) (members : List (Byte × BitVec 16)) (s : State) :
    tracksStale s (zoneDefineBlock zone tolerance y members s).2 := by
  fun_cases zoneDefineBlock <;> first | exact .refl s | exact .of_stale rfl

theorem zoneDeleteBlock_tracks (zone : Byte) (s : State) : tracksStale s (zoneDeleteBlock zone s).2 := by
  fun_cases zoneDeleteBlock <;> first | exact .refl s | exact .of_stale rfl

theorem batchPostBlock_tracks (tag : Byte) (requested : Instant) (payload : List Byte) (s : State) :
    tracksStale s (batchPostBlock tag requested payload s).2 := by
  have haccept (i : SlotNo) (b : Batch) : tracksStale s (s.acceptPost i b) := by
    unfold State.acceptPost
    dsimp only
    split
    · exact (State.installSlots_tracks _ s).trans (State.dispatch_tracks ..)
    · exact State.installSlots_tracks _ s
  fun_cases batchPostBlock <;> first | exact .refl s | exact haccept ..

theorem batchWithdrawBlock_tracks (tag : Byte) (s : State) : tracksStale s (batchWithdrawBlock tag s).2 := by
  fun_cases batchWithdrawBlock <;> first | exact .refl s | exact State.freeSlot_tracks ..

theorem batchReportBlock_tracks (s : State) : tracksStale s (batchReportBlock s).2 := by
  fun_cases batchReportBlock <;> first | exact .refl s | exact State.freeSlot_tracks ..

/-! ### The events -/

theorem State.setCalPin_tracks (b : Bool) (s : State) : tracksStale s (s.setCalPin b) := ⟨id, .inr rfl⟩

theorem execCalRisingEdge_tracks (h : execCalRisingEdge s = .next t) : tracksStale s t := by
  cases h
  split
  · exact .refl s
  · split
    next m hm =>
      split
      · exact State.setTime_tracks (by rw [hm]; rfl)
      · exact State.setCalPin_tracks true s
    all_goals exact State.setCalPin_tracks true s

theorem execCalFallingEdge_tracks (h : execCalFallingEdge s = .next t) : tracksStale s t := by
  have hpin := State.setCalPin_tracks false s
  cases h
  split
  · exact .refl s
  · dsimp only
    split
    next m hm =>
      split
      · exact hpin.trans (State.setTime_tracks (by rw [State.setCalPin, hm]; rfl))
      · exact hpin
      · split
        · exact .of_stale rfl
        · exact .of_stale rfl
    all_goals exact hpin

theorem execCalWindowExpiry_tracks (h : execCalWindowExpiry s = .next t) : tracksStale s t := by
  cases h
  split
  · split
    · exact .of_stale rfl
    · exact .refl s
  all_goals exact .refl s

theorem execOscillatorTick_tracks (h : execOscillatorTick s = .next t) : tracksStale s t := by
  cases h
  split
  · split
    · exact ⟨id, .inr rfl⟩
    · exact .refl s
  · have htick : s.time.tick.cal = s.time.cal := by
      unfold TimeBase.tick
      split <;> rfl
    have htime : tracksStale s { s with time := s.time.tick } := State.setTime_tracks (congrArg CalState.answer htick)
    exact htime.trans ⟨id, .inr rfl⟩

theorem execSlotDeadlineExpiry_tracks (k : TrunkNo) (h : execSlotDeadlineExpiry k s = .next t) : tracksStale s t := by
  cases h
  split
  · split
    · split <;> exact State.putTrunk_tracks rfl
    · exact .refl s
  all_goals exact .refl s

theorem execProbeFrameStart_tracks (k : TrunkNo) (h : execProbeFrameStart k s = .next t) : tracksStale s t := by
  cases h
  split
  · split <;> exact State.putTrunk_tracks rfl
  · exact .refl s

theorem execBatchFrameStart_tracks (k : TrunkNo) (h : execBatchFrameStart k s = .next t) : tracksStale s t := by
  cases h
  split
  · split
    next i rest _ _ _ b _ =>
      have hslot (b' : Batch) : tracksStale s (s.putSlot i (some b')) := State.installSlots_tracks _ s
      refine (hslot (startFrame k (s.trunks.get k).gran s.time.now b).1).trans ?_
      exact State.putTrunk_tracks rfl
    · exact .refl s
  · exact .refl s

theorem execNoticeReplyStart_tracks (k : TrunkNo) (h : execNoticeReplyStart k s = .next t) : tracksStale s t := by
  cases h
  split
  · exact State.putTrunk_tracks rfl
  · exact .refl s

theorem execReceiveGap_tracks (k : TrunkNo) (ticks : Nat) (h : execReceiveGap k ticks s = .next t) : tracksStale s t := by
  cases h
  split
  · exact State.putTrunk_tracks rfl
  · exact .refl s

theorem execDelimiterFound_tracks (k : TrunkNo) (line : List (Bool × Nat)) (h : execDelimiterFound k line s = .next t) : tracksStale s t := by
  cases h
  split
  · exact State.putTrunk_tracks rfl
  · exact .refl s

theorem execFrameEnd_tracks (k : TrunkNo) (h : execFrameEnd k s = .next t) : tracksStale s t := by
  cases h
  split
  · split
    · dsimp only
      split
      · refine .trans ?_ (State.frameEnded_tracks k true _ _)
        exact State.putTrunk_tracks rfl
      all_goals exact State.putTrunk_tracks rfl
    · exact .refl s
  · exact .refl s

theorem execEchoTaken_tracks (k : TrunkNo) (bits : List Bool) (h : execEchoTaken k bits s = .next t) : tracksStale s t := by
  cases h
  split
  · split
    · refine .trans ?_ (State.matchEcho_tracks ..)
      exact State.putTrunk_tracks rfl
    · exact .refl s
  · exact .refl s

theorem execNoticeArrival_tracks (k : TrunkNo) (bits : List Bool) (h : execNoticeArrival k bits s = .next t) : tracksStale s t := by
  cases h
  split
  · split
    · exact State.putTrunk_tracks rfl
    · refine .trans ?_ (State.applyNotice_tracks ..)
      exact State.putTrunk_tracks rfl
  · exact .refl s

theorem execReceiveFrameDiscard_tracks (k : TrunkNo) (bits : List Bool) (stop : Bool) (h : execReceiveFrameDiscard k bits stop s = .next t) : tracksStale s t := by
  cases h
  split
  · split
    · exact State.putTrunk_tracks rfl
    · exact .refl s
  · exact .refl s

theorem execProbeTimeoutExpiry_tracks (k : TrunkNo) (h : execProbeTimeoutExpiry k s = .next t) : tracksStale s t := by
  cases h
  split
  · split
    · dsimp only
      split
      · refine .trans ?_ (State.putSite_tracks ..)
        exact State.putTrunk_tracks rfl
      · exact State.putTrunk_tracks rfl
    · exact .refl s
  · exact .refl s

theorem execBenchEchoDelivery_tracks (k : TrunkNo) (h : execBenchEchoDelivery k s = .next t) : tracksStale s t := by
  cases h
  split
  · split
    · exact .refl s
    · exact State.putTrunk_tracks rfl
  · exact .refl s

theorem execDispatchDeadlineExpiry_tracks (h : execDispatchDeadlineExpiry s = .next t) : tracksStale s t := by
  cases h
  split
  · exact .refl s
  · split
    · split
      · exact State.dispatch_tracks ..
      · exact .refl s
    · exact .refl s

theorem execSettleDeadlineExpiry_tracks (i : SlotNo) (h : execSettleDeadlineExpiry i s = .next t) : tracksStale s t := by
  cases h
  split
  · split
    · split
      · exact State.finish_tracks ..
      · exact .refl s
    all_goals exact .refl s
  · exact .refl s

/-- A completion publishes, which leaves what a plan reads, and may start the next solve before its retire test: what that test
changes it marks again (R129, R35). -/
theorem execSolveCompletion_tracks (h : execSolveCompletion s = .next t) (hne : planInputs t ≠ planInputs s) :
    t.solver.stale = true := by
  have htest (u : State) (hu : planInputs u = planInputs s) (h : planInputs u.retireTest.countChoice ≠ planInputs s) :
      u.retireTest.countChoice.solver.stale = true := by
    refine (State.retireTest_tracks u).2.resolve_right fun e => h ?_
    exact Eq.trans (e : planInputs u.retireTest.countChoice = planInputs u) hu
  cases h
  split at hne
  next v hv =>
    rcases State.completeSolve_cases (Config.startsBeforeVacating s.choices) v.snapshot s with ⟨-, e⟩ | ⟨-, e⟩
    · rw [e] at hne ⊢
      exact htest (s.publish v.snapshot).startSolve rfl hne
    · rw [e] at hne ⊢
      exact htest (s.publish v.snapshot) rfl hne
  · exact absurd rfl hne

/-- A command that changes none of the blocks a plan reads, nor the solver, leaves both. -/
theorem tracksStale_of_onlyChanges {l : List Part} (h : onlyChanges l s t) (htime : Part.time ∉ l) (hsites : Part.sites ∉ l)
    (htrunks : Part.trunks ∉ l) (hzones : Part.zones ∉ l) (hsolver : Part.solver ∉ l) (hconfig : Part.config ∉ l) :
    tracksStale s t := by
  have etime : t.time = s.time := h.2 .time htime
  have esites : t.sites = s.sites := h.2 .sites hsites
  have etrunks : t.trunks = s.trunks := h.2 .trunks htrunks
  have ezones : t.zones = s.zones := h.2 .zones hzones
  have esolver : t.solver = s.solver := h.2 .solver hsolver
  have econfig : t.config = s.config := h.2 .config hconfig
  exact .of_inputs (by rw [esolver])
    (planInputs_congr (fun i => by rw [esites, econfig]) (fun k => by rw [etrunks]) ezones (by rw [econfig]) (by rw [etime]))

/-- Every command but the clearing ones and those of the solver tracks what a plan reads. -/
theorem exec_tracks {c : Instr} (hc : resets c = false) (hstart : c ≠ .solveStart) (hcompletion : c ≠ .solveCompletion)
    (h : exec c s = .next t) : tracksStale s t := by
  cases c with
  | powerOn | reset | init | selfTestEnd => cases hc
  | solveStart => exact absurd rfl hstart
  | solveCompletion => exact absurd rfl hcompletion
  | resetRelease | powerOnResetRelease | pendingFrame | commandFrameStart | nop | status | configGet | timeRead | trunkGet
      | zoneRead | planRead | badCommandFrame | ack | configSetAttentionMask =>
    exact tracksStale_of_onlyChanges (exec_onlyChanges h) (by simp [blocksOf]) (by simp [blocksOf]) (by simp [blocksOf])
      (by simp [blocksOf]) (by simp [blocksOf]) (by simp [blocksOf])
  | oscillatorTick => exact execOscillatorTick_tracks h
  | calRisingEdge => exact execCalRisingEdge_tracks h
  | calFallingEdge => exact execCalFallingEdge_tracks h
  | calWindowExpiry => exact execCalWindowExpiry_tracks h
  | configSetHorizon value => cases h; exact State.command_tracks (horizonBlock_tracks value s)
  | configSetJumpLimit value | configSetLaunchSpacing value =>
    cases h
    exact State.command_tracks (State.setParams_tracks rfl rfl)
  | configSetProbePeriod value => cases h; exact State.command_tracks (probePeriodBlock_tracks value s)
  | configSetProbeTimeout value => cases h; exact State.command_tracks (probeTimeoutBlock_tracks value s)
  | configSetHoldoverGrowth value => cases h; exact State.command_tracks (growthBlock_tracks value s)
  | configSetUncertaintyCeiling value => cases h; exact State.command_tracks (ceilingBlock_tracks value s)
  | configSetDriftThreshold value => cases h; exact State.command_tracks (driftBlock_tracks value s)
  | trunkSet trunk enable rate gran benchDelay =>
    cases h
    exact State.command_tracks (trunkSetBlock_tracks trunk enable gran rate benchDelay s)
  | calStart e => cases h; exact State.command_tracks (calStartBlock_tracks e s)
  | siteAdmit site trunk address asym trim =>
    cases h
    exact State.command_tracks (siteAdmitBlock_tracks site trunk address asym trim s)
  | siteAmend site mask asym trim trunk address =>
    cases h
    exact State.command_tracks (siteAmendBlock_tracks site mask trunk address asym trim s)
  | siteRead site acknowledge => cases h; exact State.command_tracks (siteReadBlock_tracks site acknowledge s)
  | siteSuspend site => cases h; exact State.command_tracks (siteSuspendBlock_tracks site s)
  | siteResume site => cases h; exact State.command_tracks (siteResumeBlock_tracks site s)
  | siteRetire site => cases h; exact State.command_tracks (siteRetireBlock_tracks site s)
  | noticeTake => cases h; exact State.command_tracks (noticeTakeBlock_tracks s)
  | zoneDefine zone tolerance y members =>
    cases h
    exact State.command_tracks (zoneDefineBlock_tracks zone y tolerance members s)
  | zoneDelete zone => cases h; exact State.command_tracks (zoneDeleteBlock_tracks zone s)
  | batchPost tag requested payload =>
    cases h
    exact State.command_tracks (batchPostBlock_tracks tag requested payload s)
  | batchWithdraw tag => cases h; exact State.command_tracks (batchWithdrawBlock_tracks tag s)
  | batchReport => cases h; exact State.command_tracks (batchReportBlock_tracks s)
  | slotDeadlineExpiry k => exact execSlotDeadlineExpiry_tracks k h
  | probeFrameStart k => exact execProbeFrameStart_tracks k h
  | batchFrameStart k => exact execBatchFrameStart_tracks k h
  | noticeReplyStart k => exact execNoticeReplyStart_tracks k h
  | receiveGap k ticks => exact execReceiveGap_tracks k ticks h
  | delimiterFound k line => exact execDelimiterFound_tracks k line h
  | frameEnd k => exact execFrameEnd_tracks k h
  | echoTaken k bits => exact execEchoTaken_tracks k bits h
  | noticeArrival k bits => exact execNoticeArrival_tracks k bits h
  | receiveFrameDiscard k bits stop => exact execReceiveFrameDiscard_tracks k bits stop h
  | probeTimeoutExpiry k => exact execProbeTimeoutExpiry_tracks k h
  | benchEchoDelivery k => exact execBenchEchoDelivery_tracks k h
  | dispatchDeadlineExpiry => exact execDispatchDeadlineExpiry_tracks h
  | settleDeadlineExpiry i => exact execSettleDeadlineExpiry_tracks i h

end

/-- Settles O60: every operation tracks what a plan reads, and a completion marks what its retire test changes. -/
theorem changedPlanInputsAreMarkedStale : Obligations.ChangedPlanInputsAreMarkedStale := by
  intro c s t hc hstart h hne
  by_cases hcompletion : c = .solveCompletion
  · subst hcompletion
    exact execSolveCompletion_tracks h hne
  · exact (exec_tracks hc hstart hcompletion h).2.resolve_right hne

end Sys2Proof.Machine
end

section
/-! Resets, INIT, the self-test, the oscillator tick and the calibration measurement: O6, O7, O8, O9, O10, O11 and O54. -/

namespace Sys2Proof.Machine

/-! ### Resets (O6, O7, O8) -/

section
variable {s : State}

/-- A release raises RDY unless the other source still holds the part (R187). -/
theorem State.releaseIfFree_port (s : State) :
    s.releaseIfFree.port = if s.held then s.port else { s.port with rdy := true } := by
  unfold State.releaseIfFree
  split <;> rfl

theorem State.releaseIfFree_resetUnit (s : State) : s.releaseIfFree.resetUnit = s.resetUnit := by
  unfold State.releaseIfFree
  split <;> rfl

/-- The release of one source changes the reset unit and the port. -/
theorem State.release_onlyChanges (r : ResetUnit) (s : State) :
    onlyChanges [.resetUnit, .port] s (State.releaseIfFree { s with resetUnit := r }) :=
  onlyChanges_trans (onlyChanges_mono (State.setResetUnit_onlyChanges s r) (by decide)) (State.releaseIfFree_onlyChanges _)

/-- Settles O6, by the rows of R187. -/
theorem resetLinesClearAndRelease : Obligations.ResetLinesClearAndRelease := by
  intro s
  refine ⟨⟨_, rfl, ⟨rfl, rfl, rfl, rfl, rfl, rfl, rfl, rfl, rfl⟩, rfl, rfl, rfl, rfl⟩,
    ⟨_, rfl, ⟨rfl, rfl, rfl, rfl, rfl, rfl, rfl, rfl, rfl⟩, rfl, rfl, rfl, rfl⟩, fun hpin => ?_, fun hpor hticks => ?_,
    fun hpin => ?_, fun h => ?_⟩
  · have hc : exec .resetRelease s
        = .next (State.releaseIfFree { s with resetUnit := { s.resetUnit with pinLow := false } }) := by
      simp [exec, execResetRelease, hpin]
    refine ⟨_, ⟨hc, State.release_onlyChanges _ s⟩, State.releaseIfFree_resetUnit _, ?_⟩
    rw [State.releaseIfFree_port]
    simp [State.held]
  · have hc : exec .powerOnResetRelease s
        = .next (State.releaseIfFree { s with resetUnit := { s.resetUnit with por := false } }) := by
      simp [exec, execPowerOnResetRelease, hpor, hticks]
    refine ⟨_, ⟨hc, State.release_onlyChanges _ s⟩, State.releaseIfFree_resetUnit _, ?_⟩
    rw [State.releaseIfFree_port]
    simp [State.held]
  · simp [hasNoEffect, exec, execResetRelease, hpin]
  · have hoff : ¬(s.resetUnit.por = true ∧ powerOnTicks ≤ s.resetUnit.porTicks) := by
      rintro ⟨hpor, hticks⟩
      rcases h with h | h
      · rw [h] at hpor
        cases hpor
      · exact absurd hticks (by simpa [powerOnTicks] using h)
    simp only [hasNoEffect, exec, execPowerOnResetRelease, if_neg hoff]

theorem mode?_of_toNat {b : Byte} {m : Mode} (h : b.toNat = m.toNat) : mode? b = some m := by
  cases m <;> simp [mode?, h, Mode.toNat]

theorem mode?_of_out_of_range {b : Byte} (h : 1 < b.toNat) : mode? b = none := by
  unfold mode?
  split
  · omega
  · omega
  · rfl

/-- Settles O7, by the two outcomes of R188. -/
theorem initClearsAndSetsMode : Obligations.InitClearsAndSetsMode := by
  intro mode selfTest s hopen hop
  have htaken : notTaken .initial s.port.op = none := by
    cases h : s.port.op <;> simp_all [notTaken]
  have hcommand : s.command .initial (initBlock mode selfTest) = (initBlock mode selfTest s).2.respond (initBlock mode selfTest s).1 := by
    simp [State.command, hopen, htaken]
  have hc : exec (.init mode selfTest) s = .next (s.command .initial (initBlock mode selfTest)) := rfl
  refine ⟨fun m hm => ?_, fun hm => ?_⟩
  · rw [hc, hcommand]
    simp only [initBlock, mode?_of_toNat hm]
    refine ⟨_, rfl, ⟨rfl, rfl, rfl, rfl, rfl, rfl, rfl, rfl, rfl⟩, rfl, rfl, rfl, ?_⟩
    by_cases h : selfTest = 0 <;> simp [h, State.respond_port, isYes, accept, State.clearBlocks, TimeBase.cleared, bare]
  · have hb : initBlock mode selfTest s = refuse .badValue s := by simp only [initBlock, mode?_of_out_of_range hm]
    refine ⟨s.respond (bare .badValue), ⟨?_, State.respond_onlyChanges _ s⟩, rfl⟩
    rw [hc, hcommand, hb]
    rfl

/-- The first store in test order that did not agree (R189). -/
theorem failingStore_cases (site zone plan batch : Bool) :
    (failingStore site zone plan batch = none ∧ site = true ∧ zone = true ∧ plan = true ∧ batch = true)
      ∨ ∃ x, failingStore site zone plan batch = some x
        ∧ ((x = .site ∧ site = false) ∨ (x = .zone ∧ site = true ∧ zone = false)
          ∨ (x = .plan ∧ site = true ∧ zone = true ∧ plan = false)
          ∨ (x = .batch ∧ site = true ∧ zone = true ∧ plan = true ∧ batch = false)) := by
  cases site <;> cases zone <;> cases plan <;> cases batch <;> simp [failingStore]

/-- Settles O8, by the first store that did not agree. -/
theorem selfTestEnds : Obligations.SelfTestEnds := by
  intro site zone plan batch s
  refine ⟨fun hop => by simp [hasNoEffect, exec, execSelfTestEnd, hop], fun hop => ?_⟩
  have hstores (p : CommandPort) (a : Attention) : onlyChanges [.sites, .noticeOrder, .zones, .solver, .slots, .attention, .port] s
      { s.clearStores with port := p, attention := a } := by
    refine onlyChanges_intro rfl fun q h => ?_
    cases q
    case choices | resetUnit | time | trunks | config => rfl
    all_goals exact absurd h (by decide)
  rcases failingStore_cases site zone plan batch with ⟨hf, hall⟩ | ⟨x, hf, hx⟩
  · refine ⟨_, ⟨by simp only [exec, execSelfTestEnd, if_pos hop, hf]; rfl, hstores _ s.attention⟩, rfl, rfl, rfl, rfl, rfl,
      .inl ⟨hall.1, hall.2.1, hall.2.2.1, hall.2.2.2, rfl, rfl⟩⟩
  · refine ⟨_, ⟨by simp only [exec, execSelfTestEnd, if_pos hop, hf]; rfl, hstores _ _⟩, rfl, rfl, rfl, rfl, rfl,
      .inr ⟨x, rfl, rfl, hx⟩⟩

end

/-! ### The tick (O9) -/

section
variable {t : TimeBase}

/-- A whole count of wraps of now changes nothing (R2): now is the 32-bit part of the units of 2^−24 du. -/
theorem BitVec.ofInt_div_add_wraps (a n : Int) (w : Int) :
    BitVec.ofInt 32 ((a + w * (4294967296 * 16777216) - n) / 16777216) = BitVec.ofInt 32 ((a - n) / 16777216) := by
  have h : (a + w * (4294967296 * 16777216) - n) / 16777216 = (a - n) / 16777216 + w * 4294967296 := by omega
  rw [h, BitVec.ofInt_add, BitVec.ofInt_mul]
  simp

theorem TimeBase.rewind_eq (n : Nat) (t : TimeBase) :
    t.rewind n = BitVec.ofInt 32 ((((t.now.toNat * 16777216 + t.fraction : Nat) : Int) - n) / 16777216) := rfl

/-- A tick that adds `f` units is undone by going back `f` units further. -/
theorem TimeBase.tick_rewind (t : TimeBase) (n : Nat) : t.tick.rewind (n + t.f) = t.rewind n := by
  rw [TimeBase.rewind_eq, TimeBase.rewind_eq]
  unfold TimeBase.tick
  by_cases h : 16777216 ≤ t.fraction + t.f
  · rw [if_pos h]
    dsimp only
    have hsum : (t.now + 1).toNat = (t.now.toNat + 1) % 4294967296 := by simp [BitVec.toNat_add]
    obtain ⟨w, hw⟩ : ∃ w : Int, ((t.now + 1).toNat : Int) = t.now.toNat + 1 + w * 4294967296 := by
      refine ⟨-(((t.now.toNat + 1) / 4294967296 : Nat) : Int), ?_⟩
      rw [hsum]
      omega
    rw [← BitVec.ofInt_div_add_wraps (((t.now.toNat * 16777216 + t.fraction : Nat) : Int)) n w]
    congr 2
    generalize (t.now + 1).toNat = k at hw ⊢
    push_cast [Nat.cast_sub h, hw]
    ring
  · rw [if_neg h]
    dsimp only
    congr 2
    push_cast
    ring

theorem TimeBase.tick_fields (t : TimeBase) :
    t.tick.rawCount = t.rawCount + 1 ∧ t.tick.f = t.f ∧ t.tick.cal = t.cal ∧ t.tick.last = t.last ∧ t.tick.calPin = t.calPin
      ∧ t.tick.fBefore = t.fBefore ∧ t.tick.sinceF = min 166667 (t.sinceF + 1) := by
  unfold TimeBase.tick
  split <;> exact ⟨rfl, rfl, rfl, rfl, rfl, rfl, rfl⟩

theorem TimeBase.nowAt_zero (h : t.fraction < 16777216) : t.nowAt 0 = some t.now := by
  have hunits : (((t.now.toNat * 16777216 + t.fraction : Nat) : Int) - (0 : Nat)) / 16777216 = t.now.toNat := by omega
  have hnow : BitVec.ofInt 32 (t.now.toNat : Int) = t.now := by simp
  rw [TimeBase.nowAt, if_pos (Nat.zero_le _), Nat.zero_mul, TimeBase.rewind_eq, hunits, hnow]

/-- What now was `n` ticks ago is `n + 1` ticks ago after a tick (R4). -/
theorem TimeBase.nowAt_tick {n : Nat} {x : Instant} (hn : n < 166667) (h : t.nowAt n = some x) : t.tick.nowAt (n + 1) = some x := by
  obtain ⟨-, hf, -, -, -, hbefore, hsince⟩ := t.tick_fields
  unfold TimeBase.nowAt at h ⊢
  rw [hf, hbefore]
  by_cases hle : n ≤ t.sinceF
  · rw [if_pos hle] at h
    rw [if_pos (by omega), Nat.add_one_mul, TimeBase.tick_rewind]
    exact h
  · rw [if_neg hle] at h
    obtain ⟨f, hbf, hx⟩ := Option.map_eq_some_iff.mp h
    have hticks : t.tick.sinceF = t.sinceF + 1 := by omega
    have hunits : (t.sinceF + 1) * t.f + (n + 1 - (t.sinceF + 1)) * f = t.sinceF * t.f + (n - t.sinceF) * f + t.f := by
      rw [Nat.add_sub_add_right]
      ring
    rw [if_neg (by omega), hticks, hbf, Option.map_some, hunits, TimeBase.tick_rewind, hx]

theorem TimeBase.tick_now (t : TimeBase) :
    (t.fraction + t.f < 16777216 ∧ t.tick.fraction = t.fraction + t.f ∧ t.tick.now = t.now)
      ∨ (16777216 ≤ t.fraction + t.f ∧ t.tick.fraction + 16777216 = t.fraction + t.f ∧ t.tick.now = t.now + 1) := by
  unfold TimeBase.tick
  split
  next h => exact .inr ⟨h, Nat.sub_add_cancel h, rfl⟩
  next h => exact .inl ⟨by simpa using h, rfl, rfl⟩

end

theorem CommandPort.raiseRdy_of_selRise {p : CommandPort} {x : Instant} (now : Instant) (h : p.selRise = some x) :
    p.raiseRdy now = if 1000 < (now - x).toNat then { p with rdy := true, selRise := none } else p := by
  unfold CommandPort.raiseRdy
  split
  next y hy =>
    rw [h] at hy
    cases hy
    rfl
  next hy =>
    rw [h] at hy
    cases hy

theorem State.tickFree_onlyChanges (s : State) (x : TimeBase) (p : CommandPort) :
    onlyChanges [.time, .port] s { s with time := x, port := p } :=
  onlyChanges_trans (onlyChanges_mono (State.setTime_onlyChanges s x) (by decide))
    (onlyChanges_mono (State.setPort_onlyChanges _ p) (by decide))

/-- Settles O9: free, the time base counts; in power-on reset the ticks waited for are counted; else nothing happens. -/
theorem oscillatorTickCounts : Obligations.OscillatorTickCounts := by
  intro s
  refine ⟨fun hfree => ?_, fun hpor => ?_, fun hpor hpin => ?_⟩
  · have hc : exec .oscillatorTick s = .next { s with time := s.time.tick, port := s.port.raiseRdy s.time.tick.now } := by
      simp [exec, execOscillatorTick, hfree]
    obtain ⟨hraw, hf, hcal, hlast, hpin, hbefore, hsince⟩ := s.time.tick_fields
    refine ⟨_, ⟨hc, State.tickFree_onlyChanges s _ _⟩, hraw, hf, hcal, hlast, hpin, hbefore, hsince, TimeBase.nowAt_zero,
      fun n x => TimeBase.nowAt_tick, s.time.tick_now, fun hrise => ?_, fun x hrise => ?_⟩
    · simp only [CommandPort.raiseRdy, hrise]
    · exact CommandPort.raiseRdy_of_selRise _ hrise
  · have hheld : s.held = true := by simp [State.held, hpor]
    have hc : exec .oscillatorTick s
        = .next { s with resetUnit := { s.resetUnit with porTicks := min powerOnTicks (s.resetUnit.porTicks + 1) } } := by
      simp [exec, execOscillatorTick, hheld, hpor]
    exact ⟨_, ⟨hc, State.setResetUnit_onlyChanges s _⟩, rfl⟩
  · have hheld : s.held = true := by simp [State.held, hpin]
    simp [hasNoEffect, exec, execOscillatorTick, hheld, hpor]

/-! ### The measurement (O10, O11) -/

section
variable {s : State} {m : Measurement}

theorem State.setCalPin_onlyChanges (b : Bool) (s : State) : onlyChanges [.time] s (s.setCalPin b) :=
  State.setTime_onlyChanges s _

/-- Settles O10, edge by edge and phase by phase. -/
theorem calEdgesAndWindow : Obligations.CalEdgesAndWindow := by
  intro s
  refine ⟨fun hpin => by simp [hasNoEffect, exec, execCalRisingEdge, hpin],
    fun hpin => by simp [hasNoEffect, exec, execCalFallingEdge, hpin], fun hm => ⟨?_, fun hpin => ?_, fun hpin => ?_⟩,
    fun m hm => ⟨fun hpin hph => ?_, fun hpin hph => ?_, fun hpin hph => ?_, fun hpin hph => ?_, fun hd => ?_, fun hd => ?_⟩⟩
  · cases hcal : s.time.cal with
    | measuring m => exact absurd hcal (hm m)
    | uncalibrated | calibrated => simp only [hasNoEffect, exec, execCalWindowExpiry, hcal]
  · refine ⟨s.setCalPin true, ⟨?_, State.setCalPin_onlyChanges true s⟩, rfl⟩
    cases hcal : s.time.cal with
    | measuring m => exact absurd hcal (hm m)
    | uncalibrated | calibrated => simp [exec, execCalRisingEdge, hcal, hpin]
  · refine ⟨s.setCalPin false, ⟨?_, State.setCalPin_onlyChanges false s⟩, rfl⟩
    cases hcal : s.time.cal with
    | measuring m => exact absurd hcal (hm m)
    | uncalibrated | calibrated => simp [exec, execCalFallingEdge, hcal, hpin]
  · exact ⟨_, ⟨by simp only [exec, execCalRisingEdge, hm, hpin, hph]; rfl, State.setTime_onlyChanges s _⟩, rfl⟩
  · refine ⟨s.setCalPin true, ⟨?_, State.setCalPin_onlyChanges true s⟩, rfl⟩
    simp [exec, execCalRisingEdge, hm, hpin, hph]
  · exact ⟨_, ⟨by simp only [exec, execCalFallingEdge, hm, hpin, hph]; rfl, State.setTime_onlyChanges s _⟩, rfl⟩
  · refine ⟨s.setCalPin false, ⟨?_, State.setCalPin_onlyChanges false s⟩, rfl⟩
    simp [exec, execCalFallingEdge, hm, hpin, hph]
  · simp [hasNoEffect, exec, execCalWindowExpiry, hm, hd]
  · refine ⟨s.endMeasurement m .timeout none, ⟨?_, State.endMeasurement_onlyChanges s m _ _⟩, rfl, rfl, rfl⟩
    simp [exec, execCalWindowExpiry, hm, hd]

/-- The falling edge that ends a pulse forms the count C and tests it (R10). -/
theorem exec_calFallingEdge_of_pulse {start : BitVec 32} {c : Nat} (hpin : s.time.calPin = true)
    (hm : s.time.cal = .measuring m) (hph : m.phase = .pulseHigh start) (hc : c = (s.time.rawCount - start).toNat) :
    exec .calFallingEdge s = .next (if countAccepted m.e c then (s.setCalPin false).acceptMeasurement m c
      else (s.setCalPin false).endMeasurement m .range (some c)) := by
  subst hc
  simp [exec, execCalFallingEdge, hm, hpin, hph]

/-- An installation of F leaves what now was some ticks ago: the ticks since the F before it added that F (R4). -/
theorem nowAt_of_installed {t u : TimeBase} {n : Nat} (hsince : u.sinceF = 0) (hbefore : u.fBefore = some t.f)
    (hnow : u.now = t.now) (hfraction : u.fraction = t.fraction) (hn : n ≤ t.sinceF) : u.nowAt n = t.nowAt n := by
  have hrewind (k : Nat) : u.rewind k = t.rewind k := by simp only [TimeBase.rewind, hnow, hfraction]
  unfold TimeBase.nowAt
  rw [if_pos hn, hsince, hbefore, hrewind]
  by_cases h : n ≤ 0
  · obtain rfl : n = 0 := by omega
    simp
  · simp [h, hrewind]

/-- Settles O11, on both sides of the limit of R10. -/
theorem pulseEndFormsRateFactor : Obligations.PulseEndFormsRateFactor := by
  intro s m start c hpin hm hph hc
  have he := exec_calFallingEdge_of_pulse hpin hm hph hc
  refine ⟨fun hin => ?_, fun hout => ?_⟩
  · have haccepted : countAccepted m.e c = true := decide_eq_true hin
    rw [if_pos haccepted] at he
    refine ⟨_, ⟨he, exec_onlyChanges he⟩, rfl, fun n hn => nowAt_of_installed rfl rfl rfl rfl hn, fun k => ?_, rfl, rfl⟩
    simp [State.acceptMeasurement, State.voidProbes, State.setCalPin, Table.get_mapIdx]
  · have hrefused : countAccepted m.e c = false := decide_eq_false (by simpa [calLimit] using hout)
    rw [if_neg (by simp [hrefused])] at he
    refine ⟨_, ⟨he, ?_⟩, rfl, rfl, rfl⟩
    exact onlyChanges_trans (onlyChanges_mono (State.setCalPin_onlyChanges false s) (by decide))
      (State.endMeasurement_onlyChanges _ m _ _)

end

/-! ### The state that reset leaves (O54) -/

theorem State.reset_storesCleared : StoresCleared State.reset := ⟨rfl, rfl, rfl, rfl, rfl⟩

theorem State.reset_blocksCleared : blocksCleared State.reset State.reset := ⟨rfl, rfl, rfl, rfl, rfl, rfl, rfl, rfl, rfl⟩

/-- Settles O54: the values are those of the tables of reset values, and the laws hold where the stores are cleared. -/
theorem resetStateHoldsValuesAndLaws : Obligations.ResetStateHoldsValuesAndLaws := by
  have hquiet : quietOutsideReady State.reset :=
    ⟨fun _ => ⟨rfl, rfl⟩, fun _ => State.clearBlocks_quietBlocks State.reset_blocksCleared nofun⟩
  have htime : State.reset.time.lawful := TimeBase.cleared_lawful false
  refine ⟨rfl, rfl, ⟨rfl, rfl, rfl, rfl, rfl, rfl, rfl, rfl⟩, fun i => State.reset_storesCleared.site i, rfl, fun k => ?_,
    fun z => ?_, rfl, fun i => State.reset_storesCleared.slot i, fun c => by cases c <;> exact ⟨rfl, rfl⟩, rfl, rfl,
    ⟨rfl, rfl, rfl, rfl, rfl⟩, htime, Params.cleared_lawful, State.reset_storesCleared.sitesInRange,
    State.reset_storesCleared.uncertaintyBounded, State.reset_storesCleared.driftLaw,
    State.reset_storesCleared.placesDistinct, State.reset_storesCleared.vacantLaw, State.reset_storesCleared.noticeLaw,
    State.reset_storesCleared.zoneLaw, State.reset_storesCleared.slotLaw,
    causesAgree_of_cleared State.reset_blocksCleared nofun, hquiet⟩
  · refine ⟨Trunk.cleared, Table.get_replicate _ k, rfl, rfl, rfl, rfl, rfl, rfl, rfl, rfl, rfl, rfl, rfl, rfl, rfl, rfl, rfl,
      rfl⟩
  · exact Table.get_replicate _ z

end Sys2Proof.Machine
end

section
/-! The command port, the attention unit and the parameters that are clamped and stored or reach every site: O16, O17, O18, O19
and O20. -/

namespace Sys2Proof.Machine

/-! ### Frames (O16) -/

section
variable {s : State}

/-- The top cause is the cause of the smallest rank present (R174). -/
theorem CauseSet.top_of_topIs {p : CauseSet} {n : Nat} (h : p.topIs n) : p.top = n := by
  rcases h with ⟨rfl, hnone⟩ | ⟨c, hc, rfl, hmin⟩
  · have hfault := hnone .fault
    have hcal := hnone .cal
    have hzone := hnone .zone
    have hsuspect := hnone .suspect
    have hholdover := hnone .holdover
    have hstep := hnone .step
    have hnotice := hnone .notice
    have hreport := hnone .report
    have hdrift := hnone .drift
    simp_all [CauseSet.top, CauseSet.has]
  · have hlow (d : Cause) (hd : d.rank < c.rank) : p.has d = false := by
      by_contra hp
      exact absurd (hmin d (by simpa using hp)) (by omega)
    have hfault := hlow .fault
    have hcal := hlow .cal
    have hzone := hlow .zone
    have hsuspect := hlow .suspect
    have hholdover := hlow .holdover
    have hstep := hlow .step
    have hnotice := hlow .notice
    have hreport := hlow .report
    cases c <;> simp_all [CauseSet.top, CauseSet.has, Cause.rank]

/-- Bytes travel most significant bit first (R176). -/
theorem CommandPort.shiftedOut_eq (p : CommandPort) {k j : Nat} (hj : j < 8) :
    p.shiftedOut (8 * k + j) = (p.clockedOut k).getLsbD (7 - j) := by
  have hdiv : (8 * k + j) / 8 = k := by omega
  have hmod : (8 * k + j) % 8 = j := by omega
  rw [CommandPort.shiftedOut, hdiv, hmod, BitVec.getMsbD]
  simp [hj]

theorem CommandPort.clockedOut_of_some {p : CommandPort} {k : Nat} {b : Byte} (h : p.sdo[k]? = some b) : p.clockedOut k = b := by
  simp [CommandPort.clockedOut, List.getD, h]

theorem CommandPort.clockedOut_of_length {p : CommandPort} {k : Nat} (h : p.sdo.length ≤ k) : p.clockedOut k = 0 := by
  simp [CommandPort.clockedOut, List.getD, List.getElem?_eq_none h]

/-- A frame's header and data, with the device state of this moment written out (R179, R185). -/
theorem State.responseFrame_eq (a : Answer) {top : Nat} {device : Byte} (htop : s.attention.present.topIs top)
    (hdevice : device = byteOf (64 * s.port.op.toNat + 32 * s.port.mode.toNat
        + 8 * (match s.time.cal with
          | .uncalibrated => 0
          | .measuring _ => 1
          | .calibrated => 2)
        + 4 * s.solver.stale.toNat + 2 * s.solver.running.isSome.toNat
        + (match s.solver.latest with
          | some p => p.provisional.toNat
          | none => 0))) :
    s.responseFrame a
      = [a.code.toByte, byteOf top, device] ++ bytesOf 2 s.solver.epoch ++ [byteOf a.data.length] ++ a.data := by
  have hstate : s.deviceState = device := by
    rw [hdevice, State.deviceState, Solver.provisional]
    cases s.time.cal <;> cases s.solver.latest <;> rfl
  rw [State.responseFrame, CauseSet.top_of_topIs htop, hstate]

theorem State.opensPending_iff (s : State) :
    s.opensPending = true ↔ s.port.frameOpen = false ∧ s.held = false ∧ s.port.rdy = false := by
  simp [State.opensPending, and_assoc]

/-- Settles O16, frame by frame: the header of the moment, the bits within a frame, and the frames off their occasion. -/
theorem framesShiftOutHeaders : Obligations.FramesShiftOutHeaders := by
  refine ⟨⟨rfl, rfl, rfl⟩, fun s => ⟨fun h k => ?_, fun h k j hj => ?_, fun k => ⟨fun b hb => ?_, fun hk => ?_⟩,
    fun hopen hheld top device htop hdevice => ⟨fun hrdy a ha => ?_, fun hrdy => ?_⟩, fun h k => ?_, fun h => ⟨?_, ?_⟩,
    fun hrdy hrise => ?_, fun hrdy => ?_⟩⟩
  · simp [CommandPort.sdoBit?, h]
  · rw [CommandPort.sdoBit?, if_pos h, CommandPort.shiftedOut_eq _ hj]
  · exact CommandPort.clockedOut_of_some hb
  · exact CommandPort.clockedOut_of_length hk
  · have hstart : (!s.port.frameOpen && !s.held && (s.port.rdy || s.port.selRise.isSome)) = true := by
      simp [hopen, hheld, hrdy]
    refine ⟨_, ⟨by simp only [exec, execCommandFrameStart, if_pos hstart]; rfl, State.setPort_onlyChanges s _⟩, ?_⟩
    dsimp only
    rw [ha, Option.getD_some, State.responseFrame_eq a htop hdevice]
  · have hpending : s.opensPending = true := (State.opensPending_iff s).mpr ⟨hopen, hheld, hrdy⟩
    have hframe := State.responseFrame_eq (bare .pending) htop hdevice
    refine ⟨_, ⟨by simp only [exec, execPendingFrame, if_pos hpending]; rfl, State.setPort_onlyChanges s _⟩, ?_,
      fun k j hj => ?_⟩
    · dsimp only [State.pendingPort]
      rw [hframe]
      simp only [bare, List.append_nil, List.length_nil]
      rfl
    · rw [State.pendingSdoBit?, if_pos hpending, CommandPort.shiftedOut_eq _ hj]
  · have hno : ¬ s.opensPending = true := by
      rw [State.opensPending_iff]
      rintro ⟨hopen, hheld, hrdy⟩
      simp_all
    rw [State.pendingSdoBit?, if_neg hno]
  · rcases h with h | h <;> simp [hasNoEffect, exec, execCommandFrameStart, h]
  · rcases h with h | h <;> simp [hasNoEffect, exec, execPendingFrame, State.opensPending, h]
  · simp [hasNoEffect, exec, execCommandFrameStart, hrdy, hrise]
  · simp [hasNoEffect, exec, execPendingFrame, State.opensPending, hrdy]

/-! ### Bad frames (O17) -/

/-- A frame that no block takes is answered with its code, by every operating state that takes its class. -/
theorem declined_of_refused_frame {c : Instr} {k : CommandClass} {code : ResultCode}
    (hc : exec c s = .next (s.command k (refuse code))) (hopen : s.port.frameOpen = true) (hk : notTaken k s.port.op = none) :
    declined c code s := by
  have hcommand : s.command k (refuse code) = s.respond (bare code) := by simp [State.command, hopen, hk, refuse]
  exact ⟨_, ⟨by rw [hc, hcommand], State.respond_onlyChanges _ s⟩, rfl⟩

/-- Settles O17, by what the frame's bits spell. -/
theorem badFramesReachNoBlock : Obligations.BadFramesReachNoBlock := by
  rintro bits bytes s rfl
  refine ⟨fun hopen => ⟨fun h => ?_, fun h => ?_, fun h => ?_⟩, fun hopen => ?_, fun c h => ?_⟩
  · exact declined_of_refused_frame (by simp only [exec, execBadCommandFrame, parseBits, h]; rfl) hopen rfl
  · exact declined_of_refused_frame (by simp only [exec, execBadCommandFrame, parseBits, h]; rfl) hopen rfl
  · have hc : exec (.badCommandFrame bits) s = .next (s.command .readyOnly (refuse .badValue)) := by
      simp only [exec, execBadCommandFrame, parseBits, h]
    by_cases hop : s.port.op = .ready
    · rw [if_pos hop]
      exact declined_of_refused_frame hc hopen (by rw [hop]; rfl)
    · rw [if_neg hop]
      refine declined_of_notTaken hc hopen ?_
      cases h : s.port.op
      case ready => exact absurd h hop
      all_goals rfl
  · have hno (k : CommandClass) (code : ResultCode) : s.command k (refuse code) = s := State.command_of_no_frame k _ hopen
    simp only [hasNoEffect, exec, execBadCommandFrame, hno]
    split
    all_goals rfl
  · simp only [hasNoEffect, exec, execBadCommandFrame, parseBits, h]

/-! ### ACK and the mask (O18) -/

theorem CauseSet.unmasked_iff (p m : CauseSet) :
    p.unmasked m = true ↔ ∃ c : Cause, p.has c = true ∧ m.has c = false := by
  constructor
  · intro h
    simp only [CauseSet.unmasked, Bool.or_eq_true, Bool.and_eq_true, Bool.not_eq_true'] at h
    rcases h with (((((((h | h) | h) | h) | h) | h) | h) | h) | h
    · exact ⟨.fault, h⟩
    · exact ⟨.cal, h⟩
    · exact ⟨.zone, h⟩
    · exact ⟨.suspect, h⟩
    · exact ⟨.holdover, h⟩
    · exact ⟨.step, h⟩
    · exact ⟨.notice, h⟩
    · exact ⟨.report, h⟩
    · exact ⟨.drift, h⟩
  · rintro ⟨c, hp, hm⟩
    cases c <;> simp_all [CauseSet.unmasked, CauseSet.has]

/-- A cause is marked by the bit of its rank (R181). -/
theorem CauseSet.has_ofNat (v : Nat) (c : Cause) : (CauseSet.ofNat v).has c = v.testBit (c.rank - 1) := by
  cases c <;> rfl

/-- The conditions are the causes of the mask 1DDh (R171). -/
theorem CauseSet.marksCondition_ofNat (causes : BitVec 16) :
    (CauseSet.ofNat causes.toNat).marksCondition = true ↔ causes &&& 0x1DD#16 ≠ 0 := by
  have hbits : causes &&& 0x1DD#16 = 0 ↔ ∀ i ∈ [0, 2, 3, 4, 6, 7, 8], causes.getLsbD i = false := by
    constructor
    · intro h i hi
      have hb := congrArg (fun x : BitVec 16 => x.getLsbD i) h
      fin_cases hi <;> simpa using hb
    · intro h
      refine BitVec.eq_of_getLsbD_eq fun i hi => ?_
      simp only [List.forall_mem_cons] at h
      interval_cases i <;> simp_all
  have hmarks : (CauseSet.ofNat causes.toNat).marksCondition = true ↔ ∃ i ∈ [0, 2, 3, 4, 6, 7, 8], causes.getLsbD i = true := by
    simp only [CauseSet.marksCondition, CauseSet.ofNat, Bool.or_eq_true, List.mem_cons, List.not_mem_nil, or_false,
      exists_eq_or_imp, exists_eq_left, or_assoc, BitVec.testBit_toNat]
  rw [hmarks, Ne, hbits]
  simp only [not_forall, Bool.not_eq_false, exists_prop]

theorem ackBlock_of_condition {causes : BitVec 16} (h : causes &&& 0x1DD#16 ≠ 0) : ackBlock causes s = refuse .badValue s := by
  simp only [ackBlock, if_pos ((CauseSet.marksCondition_ofNat causes).mpr h)]

theorem ackBlock_of_latched {causes : BitVec 16} (h : causes &&& 0x1DD#16 = 0) :
    ackBlock causes s =
      ({ code := .ok, data := (s.attention.acknowledge (CauseSet.ofNat causes.toNat)).ackData },
        { s with attention := s.attention.acknowledge (CauseSet.ofNat causes.toNat) }) := by
  have hno : ¬ (CauseSet.ofNat causes.toNat).marksCondition = true := by
    rw [CauseSet.marksCondition_ofNat]
    exact fun hne => hne h
  simp only [ackBlock, if_neg hno]

/-- ACK's data written out (R171). -/
theorem Attention.ackData_eq (a : Attention) :
    a.ackData = [0x00, byteOf (2 * a.present.cal.toNat + 32 * a.present.step.toNat)]
      ++ (match a.present.cal, a.calOutcome with
        | true, some .accepted => [0x00]
        | true, some .timeout => [0x01]
        | true, some .range => [0x02]
        | _, _ => []) := by
  unfold Attention.ackData
  cases a.present.cal <;> cases a.present.step <;> rcases a.calOutcome with _ | (_ | _ | _) <;> decide

/-- The nine marks of a number are its lowest nine bits (R181). -/
theorem CauseSet.toNat_ofNat (v : Nat) : (CauseSet.ofNat v).toNat = v % 512 := by
  have hbit (i : Nat) : (v.testBit i).toNat = v / 2 ^ i % 2 := by rw [Nat.toNat_testBit]
  simp only [CauseSet.toNat, CauseSet.ofNat, hbit]
  omega

/-- Settles O18: ATTN, the two outcomes of ACK, and the mask. -/
theorem ackAndMask : Obligations.AckAndMask := by
  refine ⟨fun s => CauseSet.unmasked_iff _ _, fun s hs => ⟨fun causes => ⟨fun h => ?_, fun h => ?_⟩, fun value => ?_⟩⟩
  · exact declined_of_refuse (k := .readyOnly) rfl hs (ackBlock_of_condition h)
  · refine ⟨_, _, answers_of_block (k := .readyOnly) rfl hs (ackBlock_of_latched h) (State.setAttention_onlyChanges s _) rfl rfl,
      Attention.ackData_eq _, ?_⟩
    simp [Attention.acknowledge, CauseSet.ofNat, State.respond, BitVec.testBit_toNat]
  · have hb : maskBlock value s = ({ code := .ok, data := bytesOf 4 (value.toNat % 512) },
        { s with attention := { s.attention with mask := CauseSet.ofNat value.toNat } }) := by
      simp only [maskBlock, CauseSet.toNat_ofNat]
    exact ⟨_, answers_of_block (k := .readyOnly) rfl hs hb (State.setAttention_onlyChanges s _) rfl rfl, rfl, rfl,
      CauseSet.toNat_ofNat _, fun c => (CauseSet.has_ofNat _ c).trans (BitVec.testBit_toNat ..)⟩

/-! ### Parameters that are stored (O19) -/

section
variable {value : BitVec 32}

theorem jumpLimitBlock_eq (value : BitVec 32) (s : State) :
    jumpLimitBlock value s = (configAnswer value.toNat (max 10 (min 100000 value.toNat)),
      s.setParams { s.config with jumpLimit := max 10 (min 100000 value.toNat) }) := by
  simp only [jumpLimitBlock, clamp]

theorem spacingBlock_eq (value : BitVec 32) (s : State) :
    spacingBlock value s = (configAnswer value.toNat (min 10000000 value.toNat),
      s.setParams { s.config with spacing := min 10000000 value.toNat }) := by
  simp only [spacingBlock, clamp, Nat.zero_max]

theorem probePeriodBlock_of_above (h : s.config.probeTimeout < clamp 10000 10000000 value.toNat) :
    probePeriodBlock value s = (configAnswer value.toNat (clamp 10000 10000000 value.toNat),
      s.setParams { s.config with probePeriod := clamp 10000 10000000 value.toNat }) := by
  simp only [probePeriodBlock, if_pos h]

theorem probePeriodBlock_of_not_above (h : clamp 10000 10000000 value.toNat ≤ s.config.probeTimeout) :
    probePeriodBlock value s = refuse .badValue s := by
  simp only [probePeriodBlock, if_neg (Nat.not_lt.mpr h)]

theorem probeTimeoutBlock_of_below (h : clamp 1000 9999999 value.toNat < s.config.probePeriod) :
    probeTimeoutBlock value s = (configAnswer value.toNat (clamp 1000 9999999 value.toNat),
      s.setParams { s.config with probeTimeout := clamp 1000 9999999 value.toNat }) := by
  simp only [probeTimeoutBlock, if_pos h]

theorem probeTimeoutBlock_of_not_below (h : s.config.probePeriod ≤ clamp 1000 9999999 value.toNat) :
    probeTimeoutBlock value s = refuse .badValue s := by
  simp only [probeTimeoutBlock, if_neg (Nat.not_lt.mpr h)]

/-- In READY a parameter that is only stored is answered with the value stored. -/
theorem answers_of_stored {c : Instr} {block : State → Answer × State} {a : Answer} {p : Params}
    (hc : exec c s = .next (s.command .readyOnly block)) (hs : s.ready) (hb : block s = (a, s.setParams p)) :
    ∃ t, answers c a [.config] s t ∧ t.config = p :=
  ⟨_, answers_of_block hc hs hb (State.setParams_onlyChanges p s) rfl rfl, rfl⟩

end

/-- Settles O19: each value is clamped, tested and stored (R182). -/
theorem configSetClampsAndStores : Obligations.ConfigSetClampsAndStores := by
  intro value s answer hs hanswer
  obtain rfl : answer = configAnswer value.toNat := hanswer
  refine ⟨?_, ?_, ?_, ?_⟩
  · exact answers_of_stored (block := jumpLimitBlock value) rfl hs (jumpLimitBlock_eq value s)
  · exact answers_of_stored (block := spacingBlock value) rfl hs (spacingBlock_eq value s)
  · rintro p rfl
    refine ⟨fun h => ?_, fun h => ?_⟩
    · exact declined_of_refuse (k := .readyOnly) rfl hs (probePeriodBlock_of_not_above h)
    · exact answers_of_stored (block := probePeriodBlock value) rfl hs (probePeriodBlock_of_above h)
  · rintro q rfl
    refine ⟨fun h => ?_, fun h => ?_⟩
    · exact declined_of_refuse (k := .readyOnly) rfl hs (probeTimeoutBlock_of_not_below h)
    · exact answers_of_stored (block := probeTimeoutBlock value) rfl hs (probeTimeoutBlock_of_below h)

end

/-! ### Parameters that reach every site (O20) -/

section
variable {g u : Nat} {r : SiteRecord}

theorem SiteRecord.suspectTest_eq (g u : Nat) (r : SiteRecord) :
    r.suspectTest g u = if ∃ v, r.u g = some v ∧ u < v then { r with phase := .suspect [] } else r := by
  rcases SiteRecord.suspectTest_cases g u r with ⟨e, h⟩ | ⟨e, v, hv, hlt⟩ <;> rw [e]
  · rw [if_neg]
    rintro ⟨v, hv, hlt⟩
    exact absurd (h v hv) (by omega)
  · rw [if_pos ⟨v, hv, hlt⟩]
    rfl

/-- A site with a u has one under every G (R16). -/
theorem SiteRecord.u_isSome (g g' : Nat) (r : SiteRecord) : (r.u g).isSome = (r.u g').isSome := by
  unfold SiteRecord.u
  split <;> rfl

/-- The plan's view changes under the SUSPECT test, and under another G, exactly where u does (R23). -/
theorem SiteRecord.planView_suspectTest (g g' u : Nat) (r : SiteRecord) :
    r.planView g = (r.suspectTest g' u).planView g' ↔ r.u g = (r.suspectTest g' u).u g' := by
  refine ⟨congrArg PlanView.u, fun h => ?_⟩
  rcases SiteRecord.suspectTest_cases g' u r with ⟨e, -⟩ | ⟨e, v, hv, -⟩
  · rw [e] at h ⊢
    simp only [SiteRecord.planView, h]
  · rw [e] at h
    have hsome := SiteRecord.u_isSome g g' r
    rw [hv, h] at hsome
    cases hsome

/-- Under one G the SUSPECT test changes u exactly where it changes the state. -/
theorem SiteRecord.u_suspectTest (g u : Nat) (r : SiteRecord) :
    r.u g = (r.suspectTest g u).u g ↔ r.state = (r.suspectTest g u).state := by
  rcases SiteRecord.suspectTest_cases g u r with ⟨e, -⟩ | ⟨e, v, hv, -⟩ <;> rw [e]
  · exact ⟨fun _ => rfl, fun _ => rfl⟩
  · refine ⟨fun h => ?_, fun h => ?_⟩
    · rw [hv] at h
      cases h
    · rcases SiteRecord.state_of_u hv with h' | h' <;> rw [h'] at h <;> cases h

theorem sitesChangePlan_iff {g g' : Nat} {old new : Table SiteRecord 64} :
    sitesChangePlan g g' old new = true ↔ ∃ i, (old.get i).planView g ≠ (new.get i).planView g' := by
  simp [sitesChangePlan]

theorem clamp_zero (high v : Nat) : clamp 0 high v = min high v := Nat.zero_max _

section
variable {s : State} {value : BitVec 32}

theorem growthBlock_of_changed (h : min 255 value.toNat ≠ s.config.growth) :
    growthBlock value s = (configAnswer value.toNat (min 255 value.toNat),
      (s.setParams { s.config with growth := min 255 value.toNat }).installSites s.config.growth
        (s.sites.mapIdx fun _ r => r.suspectTest (min 255 value.toNat) s.config.ceiling)) := by
  simp only [growthBlock, clamp_zero, if_neg h]

theorem ceilingBlock_of_changed (h : clamp 10 65535 value.toNat ≠ s.config.ceiling) :
    ceilingBlock value s = (configAnswer value.toNat (clamp 10 65535 value.toNat),
      (s.setParams { s.config with ceiling := clamp 10 65535 value.toNat }).mapSites fun _ r =>
        r.suspectTest s.config.growth (clamp 10 65535 value.toNat)) := by
  simp only [ceilingBlock, if_neg h]

theorem driftBlock_of_changed (h : min 1000000 value.toNat ≠ s.config.driftThreshold) :
    driftBlock value s = (configAnswer value.toNat (min 1000000 value.toNat),
      (s.setParams { s.config with driftThreshold := min 1000000 value.toNat }).mapSites fun _ r =>
        r.redrift (min 1000000 value.toNat)) := by
  simp only [driftBlock, clamp_zero, if_neg h]

end

/-- The answer to a CONFIG.SET whose value is held already: nothing else happens. -/
theorem answersOnly_of_block {c : Instr} {k : CommandClass} {block : State → Answer × State} {s : State} {a : Answer}
    (hc : exec c s = .next (s.command k block)) (hs : s.ready) (hb : block s = (a, s)) : answersOnly c a s :=
  ⟨_, answers_of_block hc hs hb (onlyChanges_refl [] s) rfl rfl⟩

/-- A changed G is applied at every site (R62). -/
theorem configSetGrowth_reaches {s : State} {value : BitVec 32} (hs : s.ready) (h : min 255 value.toNat ≠ s.config.growth) :
    ∃ t, answers (.configSetHoldoverGrowth value) (configAnswer value.toNat (min 255 value.toNat))
        [.sites, .solver, .attention, .config] s t
      ∧ t.config = { s.config with growth := min 255 value.toNat }
      ∧ (∀ i, t.sites.get i = (s.sites.get i).suspectTest (min 255 value.toNat) s.config.ceiling)
      ∧ t.solver.running = s.solver.running ∧ t.solver.latest = s.solver.latest
      ∧ (t.solver.stale = true ↔ s.solver.stale = true
          ∨ ∃ i, (s.sites.get i).u s.config.growth ≠ (t.sites.get i).u (min 255 value.toNat))
      ∧ conditionsFollow [.suspect, .holdover, .drift] s t := by
  have hb := growthBlock_of_changed h
  have honly := growthBlock_onlyChanges s value
  rw [hb] at honly
  refine ⟨_, answers_of_block (k := .readyOnly) rfl hs hb honly rfl rfl, rfl, fun i => by simp, rfl, rfl, ?_,
    conditionsFollow_respond _ (State.installSites_conditionsFollow _ _ (s.setParams _))⟩
  simp only [State.respond_solver, State.respond_sites, State.installSites_stale, State.installSites_sites, Bool.or_eq_true,
    sitesChangePlan_iff, Table.get_mapIdx, State.setParams_config, State.setParams_sites, State.setParams_solver, Ne,
    SiteRecord.planView_suspectTest]

/-- A changed U is tested at every site (R63). -/
theorem configSetCeiling_reaches {s : State} {value : BitVec 32} (hs : s.ready)
    (h : clamp 10 65535 value.toNat ≠ s.config.ceiling) :
    ∃ t, answers (.configSetUncertaintyCeiling value) (configAnswer value.toNat (clamp 10 65535 value.toNat))
        [.sites, .solver, .attention, .config] s t
      ∧ t.config = { s.config with ceiling := clamp 10 65535 value.toNat }
      ∧ (∀ i, t.sites.get i = (s.sites.get i).suspectTest s.config.growth (clamp 10 65535 value.toNat))
      ∧ t.solver.running = s.solver.running ∧ t.solver.latest = s.solver.latest
      ∧ (t.solver.stale = true ↔ s.solver.stale = true ∨ ∃ i, (s.sites.get i).state ≠ (t.sites.get i).state)
      ∧ conditionsFollow [.suspect, .holdover, .drift] s t := by
  have hb := ceilingBlock_of_changed h
  have honly := ceilingBlock_onlyChanges s value
  rw [hb] at honly
  refine ⟨_, answers_of_block (k := .readyOnly) rfl hs hb honly rfl rfl, rfl, fun i => by simp, rfl, rfl, ?_,
    conditionsFollow_respond _ (State.installSites_conditionsFollow _ _ (s.setParams _))⟩
  simp only [State.mapSites, State.respond_solver, State.respond_sites, State.installSites_stale, State.installSites_sites,
    Bool.or_eq_true, sitesChangePlan_iff, Table.get_mapIdx, State.setParams_config, State.setParams_sites,
    State.setParams_solver, Ne, SiteRecord.planView_suspectTest, SiteRecord.u_suspectTest]

/-- A changed D re-evaluates drift pending at every site (R39). -/
theorem configSetDrift_reaches {s : State} {value : BitVec 32} (hs : s.ready)
    (h : min 1000000 value.toNat ≠ s.config.driftThreshold) :
    ∃ t, answers (.configSetDriftThreshold value) (configAnswer value.toNat (min 1000000 value.toNat))
        [.sites, .attention, .config] s t
      ∧ t.config = { s.config with driftThreshold := min 1000000 value.toNat }
      ∧ (∀ i, t.sites.get i = (s.sites.get i).redrift (min 1000000 value.toNat))
      ∧ conditionsFollow [.suspect, .holdover, .drift] s t := by
  have hb := driftBlock_of_changed h
  have honly := driftBlock_onlyChanges s value
  rw [hb] at honly
  exact ⟨_, answers_of_block (k := .readyOnly) rfl hs hb honly rfl rfl, rfl, fun i => by simp,
    conditionsFollow_respond _ (State.installSites_conditionsFollow _ _ (s.setParams _))⟩

/-- Settles O20: a value that is held changes nothing, and a changed one reaches every site. -/
theorem configSetReachesEverySite : Obligations.ConfigSetReachesEverySite := by
  intro value s answer hs hanswer
  obtain rfl : answer = configAnswer value.toNat := hanswer
  refine ⟨?_, ?_, ?_⟩
  · rintro g rfl
    refine ⟨fun h => ?_, fun h => ?_⟩
    · refine answersOnly_of_block (k := .readyOnly) (block := growthBlock value) rfl hs ?_
      simp only [growthBlock, clamp_zero, if_pos h]
    · obtain ⟨t, hanswer, hconfig, hsites, hrest⟩ := configSetGrowth_reaches hs h
      exact ⟨t, hanswer, hconfig, fun i => (hsites i).trans (SiteRecord.suspectTest_eq _ _ _), hrest⟩
  · rintro u rfl
    refine ⟨fun h => ?_, fun h => ?_⟩
    · exact answersOnly_of_block (k := .readyOnly) (block := ceilingBlock value) rfl hs
        (congrArg (Prod.mk _) (if_pos h))
    · obtain ⟨t, hanswer, hconfig, hsites, hrest⟩ := configSetCeiling_reaches hs h
      exact ⟨t, hanswer, hconfig, fun i => (hsites i).trans (SiteRecord.suspectTest_eq _ _ _), hrest⟩
  · rintro d rfl
    refine ⟨fun h => ?_, fun h => ?_⟩
    · refine answersOnly_of_block (k := .readyOnly) (block := driftBlock value) rfl hs ?_
      simp only [driftBlock, clamp_zero, if_pos h]
    · obtain ⟨t, hanswer, hconfig, hsites, hfollow⟩ := configSetDrift_reaches hs h
      refine ⟨t, hanswer, hconfig, fun i => ?_, hfollow⟩
      rw [hsites]
      exact ⟨rfl, driftRule_iff _ _⟩

end

end Sys2Proof.Machine
end

section
/-! Proofs of the family of the site table, continued: SITE.ADMIT, SITE.AMEND, SITE.READ, SITE.RETIRE and NOTICE.TAKE. -/

namespace Sys2Proof.Machine

/-! ### The operands of the site commands -/

section
variable {b trunk address : Byte} {w : BitVec 24} {k : TrunkNo}

theorem trunkNo?_of_out_of_range (h : 8 ≤ b.toNat) : trunkNo? b = none := dif_neg (Nat.not_lt.mpr h)

theorem trunkNo?_of_val (h : k.val = b.toNat) : trunkNo? b = some k := by
  have hlt : b.toNat < 8 := h ▸ k.isLt
  rw [trunkNo?, dif_pos hlt, Option.some_inj]
  exact Fin.ext h.symm

theorem address?_of_inRange (h : 1 ≤ address.toNat) (h' : address.toNat ≤ 30) : address? address = some address.toNat :=
  if_pos ⟨h, h'⟩

theorem place?_of_val (hk : k.val = trunk.toNat) (h : 1 ≤ address.toNat) (h' : address.toNat ≤ 30) :
    place? trunk address = some (k, address.toNat) := by
  simp only [place?, trunkNo?_of_val hk, address?_of_inRange h h']

theorem place?_of_out_of_range (h : 8 ≤ trunk.toNat ∨ address.toNat = 0 ∨ 30 < address.toNat) :
    place? trunk address = none := by
  rcases h with h | h
  · simp only [place?, trunkNo?_of_out_of_range h]
  · have ha : address? address = none := if_neg (by omega)
    cases ht : trunkNo? trunk <;> simp only [place?, ht, ha]

theorem trim?_of_inRange (h : w.toInt.natAbs ≤ 100000) : trim? w = some w.toInt := if_pos (by omega)

theorem trim?_of_out_of_range (h : 100000 < w.toInt.natAbs) : trim? w = none := if_neg (by omega)

end

/-- Another site that is not VACANT stands at the place (R18). -/
theorem State.placeHeld_iff {s : State} {i : SiteNo} {k : TrunkNo} {a : Nat} :
    s.placeHeld i k a = true ↔ ∃ j, j ≠ i ∧ (s.sites.get j).state ≠ .vacant ∧ (s.sites.get j).isAt k a = true := by
  simp [State.placeHeld, and_assoc]

theorem State.placeHeld_eq_false {s : State} {i : SiteNo} {k : TrunkNo} {a : Nat}
    (h : ∀ j, j ≠ i → (s.sites.get j).state ≠ .vacant → (s.sites.get j).isAt k a = false) : s.placeHeld i k a = false := by
  rw [← Bool.not_eq_true, State.placeHeld_iff]
  rintro ⟨j, hj, hv, hat⟩
  rw [h j hj hv] at hat
  cases hat

/-! ### SITE.ADMIT -/

section
variable {site trunk address : Byte} {asym : BitVec 16} {trim : BitVec 24} {i : SiteNo} {k : TrunkNo} {s : State}

theorem siteAdmitBlock_of_out_of_range (h : siteNo? site = none ∨ place? trunk address = none ∨ trim? trim = none) :
    siteAdmitBlock site trunk address asym trim s = refuse .badValue s := by
  unfold siteAdmitBlock
  split
  next hi hp hw => simp [hi, hp, hw] at h
  · rfl

theorem siteAdmitBlock_of_inRange {p : TrunkNo × Nat} {w : Int} (hi : siteNo? site = some i)
    (hp : place? trunk address = some p) (hw : trim? trim = some w) :
    siteAdmitBlock site trunk address asym trim s =
      if (s.sites.get i).state ≠ .vacant then refuse .inUse s
      else if s.placeHeld i p.1 p.2 then refuse .addrInUse s
      else accept (s.putSite i (SiteRecord.admitted p.1 p.2 asym.toInt w)) := by
  simp only [siteAdmitBlock, hi, hp, hw]

end

/-- Settles O24, by the refusals of R26 in their order and the record of R27. -/
theorem siteAdmitWritesRecord : Obligations.SiteAdmitWritesRecord := by
  intro site trunk address asym trim s hs
  refine ⟨fun h => ?_, fun i k hi hk ha ha' hw => ?_⟩
  · refine declined_of_refuse (k := .readyOnly) rfl hs (siteAdmitBlock_of_out_of_range ?_)
    rcases h with h | h | h | h | h
    · exact .inl (siteNo?_of_out_of_range h)
    · exact .inr (.inl (place?_of_out_of_range (.inl h)))
    · exact .inr (.inl (place?_of_out_of_range (.inr (.inl h))))
    · exact .inr (.inl (place?_of_out_of_range (.inr (.inr h))))
    · exact .inr (.inr (trim?_of_out_of_range h))
  have hb := siteAdmitBlock_of_inRange (asym := asym) (s := s) (siteNo?_of_val hi) (place?_of_val hk ha ha')
    (trim?_of_inRange hw)
  refine ⟨fun h => ?_, fun h hheld => ?_, fun h hfree => ?_⟩
  · rw [if_pos h] at hb
    exact declined_of_refuse (k := .readyOnly) rfl hs hb
  · rw [if_neg (not_not_intro h), if_pos (State.placeHeld_iff.mpr hheld)] at hb
    exact declined_of_refuse (k := .readyOnly) rfl hs hb
  · rw [if_neg (not_not_intro h), if_neg (by simp [State.placeHeld_eq_false hfree])] at hb
    have hmoved : SiteState.probing ≠ (s.sites.get i).state := by rw [h]; decide
    exact answers_of_site_moved (k := .readyOnly) rfl hs hb hmoved

/-! ### SITE.AMEND -/

/-- The mask names a value exactly where one of its three lowest bits is set (R181). -/
theorem namesNothing_iff (mask : Byte) : namesNothing mask = true ↔ mask &&& 7#8 = 0 := by
  have hbits : mask &&& 7#8 = 0 ↔ ∀ i ∈ [0, 1, 2], mask.getLsbD i = false := by
    constructor
    · intro h i hi
      have hb := congrArg (fun x : BitVec 8 => x.getLsbD i) h
      fin_cases hi <;> simpa using hb
    · intro h
      refine BitVec.eq_of_getLsbD_eq fun i hi => ?_
      simp only [List.forall_mem_cons] at h
      interval_cases i <;> simp_all
  rw [hbits]
  simp [namesNothing, namesAsym, namesTrim, namesPlace, and_assoc]

/-- The plan's view of one record decides whether its change marks the plan stale (R23). -/
theorem State.putSite_solver (i : SiteNo) (r : SiteRecord) (s : State) :
    (s.putSite i r).solver =
      { s.solver with
        stale := s.solver.stale || decide ((s.sites.get i).planView s.config.growth ≠ r.planView s.config.growth) } := by
  have hchange : sitesChangePlan s.config.growth s.config.growth s.sites (s.sites.set i r) =
      decide ((s.sites.get i).planView s.config.growth ≠ r.planView s.config.growth) := by
    rw [Bool.eq_iff_iff, sitesChangePlan_iff, decide_eq_true_iff]
    refine ⟨fun ⟨j, hj⟩ => ?_, fun h => ⟨i, by rwa [Table.get_set_self]⟩⟩
    rw [Table.get_set] at hj
    split at hj
    next e => exact e ▸ hj
    · exact absurd rfl hj
  simp [State.putSite, State.installSites, hchange]

section
variable {site mask trunk address : Byte} {asym : BitVec 16} {trim : BitVec 24} {i : SiteNo} {k : TrunkNo} {s : State}

theorem siteAmendBlock_of_no_site (h : siteNo? site = none) :
    siteAmendBlock site mask asym trim trunk address s = refuse .badValue s := by
  simp only [siteAmendBlock, h]

theorem siteAmendBlock_of_nothing (h : namesNothing mask = true) :
    siteAmendBlock site mask asym trim trunk address s = refuse .badValue s := by
  cases hi : siteNo? site <;> simp only [siteAmendBlock, hi, h, if_true]

theorem siteAmendBlock_of_vacant (hi : siteNo? site = some i) (hm : ¬namesNothing mask = true)
    (hv : (s.sites.get i).state = .vacant) : siteAmendBlock site mask asym trim trunk address s = refuse .noSuch s := by
  simp only [siteAmendBlock, hi, if_neg hm, if_pos hv]

theorem siteAmendBlock_of_retiring (hi : siteNo? site = some i) (hm : ¬namesNothing mask = true)
    (hr : (s.sites.get i).state = .retiring) : siteAmendBlock site mask asym trim trunk address s = refuse .busy s := by
  have hv : (s.sites.get i).state ≠ .vacant := by rw [hr]; decide
  simp only [siteAmendBlock, hi, if_neg hm, if_neg hv, if_pos hr]

theorem siteAmendBlock_of_serving (hi : siteNo? site = some i) (hm : ¬namesNothing mask = true)
    (hv : (s.sites.get i).state ≠ .vacant) (hr : (s.sites.get i).state ≠ .retiring) {x : Amendment}
    (hx : amendment? mask asym trim trunk address = some x) :
    siteAmendBlock site mask asym trim trunk address s =
      if s.amendmentCollides i x then refuse .addrInUse s else accept (s.putSite i ((s.sites.get i).amended x)) := by
  simp only [siteAmendBlock, hi, if_neg hm, if_neg hv, if_neg hr, hx]

theorem siteAmendBlock_of_bad_value (hi : siteNo? site = some i) (hm : ¬namesNothing mask = true)
    (hv : (s.sites.get i).state ≠ .vacant) (hr : (s.sites.get i).state ≠ .retiring)
    (hx : amendment? mask asym trim trunk address = none) :
    siteAmendBlock site mask asym trim trunk address s = refuse .badValue s := by
  simp only [siteAmendBlock, hi, if_neg hm, if_neg hv, if_neg hr, hx]

/-- A named value out of range spoils the amendment (R28). -/
theorem amendment?_of_out_of_range
    (h : (namesTrim mask = true ∧ trim? trim = none) ∨ (namesPlace mask = true ∧ place? trunk address = none)) :
    amendment? mask asym trim trunk address = none := by
  unfold amendment?
  split
  · rfl
  next hn => rw [if_pos (h.resolve_left hn)]

/-- Named values in range make up the amendment; what is not named is not tested (R28). -/
theorem amendment?_of_inRange (ht : namesTrim mask = true → trim.toInt.natAbs ≤ 100000)
    (hp : namesPlace mask = true → k.val = trunk.toNat ∧ 1 ≤ address.toNat ∧ address.toNat ≤ 30) :
    amendment? mask asym trim trunk address =
      some
        { asym := if namesAsym mask then some asym.toInt else none
          trim := if namesTrim mask then some trim.toInt else none
          place := if namesPlace mask then some (k, address.toNat) else none } := by
  have htrim : namesTrim mask = true → trim? trim = some trim.toInt := fun h => trim?_of_inRange (ht h)
  have hplace : namesPlace mask = true → place? trunk address = some (k, address.toNat) := fun h =>
    place?_of_val (hp h).1 (hp h).2.1 (hp h).2.2
  have hn : ¬(namesTrim mask = true ∧ trim? trim = none) := fun ⟨h, hn⟩ => Option.some_ne_none _ ((htrim h).symm.trans hn)
  have hn' : ¬(namesPlace mask = true ∧ place? trunk address = none) := fun ⟨h, hn⟩ =>
    Option.some_ne_none _ ((hplace h).symm.trans hn)
  rw [amendment?, if_neg hn, if_neg hn']
  cases h : namesTrim mask <;> cases h' : namesPlace mask <;> simp [h, h', htrim, hplace]

end

section
variable {l : Link} {r : SiteRecord} {x : Amendment}

/-- What an amendment writes: each value its mask names, and the record's own for the others (R29). -/
theorem Link.amended_of_named (l : Link) (namedAsym namedTrim namedPlace : Bool) (a t : Int) (q : TrunkNo × Nat) :
    l.amended
        { asym := if namedAsym then some a else none
          trim := if namedTrim then some t else none
          place := if namedPlace then some q else none } =
      { trunk := if namedPlace then q.1 else l.trunk
        address := if namedPlace then q.2 else l.address
        asym := if namedAsym then a else l.asym
        trim := if namedTrim then t else l.trim } := by
  cases namedAsym <;> cases namedTrim <;> cases namedPlace <;> rfl

/-- An amendment that does not move the link leaves its trunk and address (R30). -/
theorem Link.amended_place_of_not_moved (h : l.movedBy x = false) :
    (l.amended x).trunk = l.trunk ∧ (l.amended x).address = l.address := by
  cases hp : x.place with
  | none => simp [Link.amended, hp]
  | some p =>
    obtain rfl : p = (l.trunk, l.address) := by simpa [Link.movedBy, hp] using h
    simp [Link.amended, hp]

/-- An amendment that moves the link takes it to another trunk or address (R30). -/
theorem Link.amended_place_of_moved (h : l.movedBy x = true) :
    ((l.amended x).trunk, (l.amended x).address) ≠ (l.trunk, l.address) := by
  cases hp : x.place with
  | none => simp [Link.movedBy, hp] at h
  | some p => simpa [Link.movedBy, hp, Link.amended] using h

/-- What the plan reads of an amended record differs exactly with a move or another trim (R23). -/
theorem SiteRecord.planView_amended (g : Nat) (h : r.link = some l) :
    decide (r.planView g ≠ (r.amended x).planView g) = (l.movedBy x || decide ((l.amended x).trim ≠ l.trim)) := by
  rw [SiteRecord.amended_of_link x h]
  cases hm : l.movedBy x with
  | true =>
    rw [if_pos rfl, Bool.true_or, decide_eq_true_iff]
    intro e
    have hplace := congrArg PlanView.place e
    simp only [SiteRecord.planView, h, Option.map_some, Option.some.injEq] at hplace
    exact Link.amended_place_of_moved hm hplace.symm
  | false =>
    obtain ⟨ht, ha⟩ := Link.amended_place_of_not_moved hm
    rw [if_neg Bool.false_ne_true, Bool.false_or, decide_eq_decide]
    have hview : r.planView g = ({ r with link := some (l.amended x) } : SiteRecord).planView g ↔
        (l.amended x).trim = l.trim := by
      simp only [SiteRecord.planView, SiteRecord.state, SiteRecord.u, h, Option.map_some, ht, ha, PlanView.mk.injEq,
        Option.some.injEq, true_and, and_true, eq_comm]
    exact not_congr hview

theorem State.amendmentCollides_of_link {s : State} {i : SiteNo} (h : (s.sites.get i).link = some l) :
    s.amendmentCollides i x = true ↔ ∃ p, x.place = some p ∧ l.movedBy x = true ∧ s.placeHeld i p.1 p.2 = true := by
  cases hp : x.place <;> simp [State.amendmentCollides, h, hp]

end

/-- Settles O25, by the refusals of R28 in their order; the accepted amendment is written as R29 says, and R30 tells whether it
moves the link. -/
theorem siteAmendWritesNamedValues : Obligations.SiteAmendWritesNamedValues := by
  intro site mask trunk address asym trim s hs
  refine ⟨fun h => ?_, fun i hval hmask => ?_⟩
  · refine declined_of_refuse (k := .readyOnly) rfl hs ?_
    rcases h with h | h
    · exact siteAmendBlock_of_no_site (siteNo?_of_out_of_range h)
    · exact siteAmendBlock_of_nothing ((namesNothing_iff mask).mpr h)
  have hi := siteNo?_of_val hval
  have hm : ¬namesNothing mask = true := fun h => hmask ((namesNothing_iff mask).mp h)
  refine ⟨fun hv => ?_, fun hr => ?_, fun hv hr => ⟨fun hbad => ?_, ?_⟩⟩
  · exact declined_of_refuse (k := .readyOnly) rfl hs (siteAmendBlock_of_vacant hi hm hv)
  · exact declined_of_refuse (k := .readyOnly) rfl hs (siteAmendBlock_of_retiring hi hm hr)
  · refine declined_of_refuse (k := .readyOnly) rfl hs
      (siteAmendBlock_of_bad_value hi hm hv hr (amendment?_of_out_of_range ?_))
    exact hbad.imp (And.imp_right trim?_of_out_of_range) (And.imp_right place?_of_out_of_range)
  rintro l k moved l' hl ht hp rfl rfl
  have hx := amendment?_of_inRange (asym := asym) (k := k) ht hp
  generalize hxdef : ({ asym := _, trim := _, place := _ } : Amendment) = x at hx
  have hb := siteAmendBlock_of_serving (s := s) hi hm hv hr hx
  have hplace : x.place = if mask.getLsbD 2 then some (k, address.toNat) else none := hxdef ▸ rfl
  have hmoved : l.movedBy x = (mask.getLsbD 2 && decide ((k, address.toNat) ≠ (l.trunk, l.address))) := by
    rw [Link.movedBy, hplace]
    cases mask.getLsbD 2 <;> rfl
  have hlink : l.amended x =
      { trunk := if mask.getLsbD 2 then k else l.trunk
        address := if mask.getLsbD 2 then address.toNat else l.address
        asym := if mask.getLsbD 0 then asym.toInt else l.asym
        trim := if mask.getLsbD 1 then trim.toInt else l.trim } := by
    rw [← hxdef]
    exact l.amended_of_named _ _ _ asym.toInt trim.toInt (k, address.toNat)
  rw [← hmoved, ← hlink]
  refine ⟨fun hmv hheld => ?_, fun hfree => ?_⟩
  · have h2 : mask.getLsbD 2 = true := by
      rw [hmoved, Bool.and_eq_true] at hmv
      exact hmv.1
    have hcollides : s.amendmentCollides i x = true :=
      (State.amendmentCollides_of_link hl).mpr ⟨_, hplace.trans (if_pos h2), hmv, State.placeHeld_iff.mpr hheld⟩
    rw [if_pos hcollides] at hb
    exact declined_of_refuse (k := .readyOnly) rfl hs hb
  · have hclear : ¬s.amendmentCollides i x = true := by
      rw [State.amendmentCollides_of_link hl]
      rintro ⟨p, hpx, hmv, hheld⟩
      rw [hplace, Option.ite_none_right_eq_some, Option.some_inj] at hpx
      obtain ⟨-, rfl⟩ := hpx
      rw [State.placeHeld_eq_false (hfree hmv)] at hheld
      cases hheld
    rw [if_neg hclear] at hb
    refine ⟨_, answers_of_block (k := .readyOnly) rfl hs hb (State.putSite_onlyChanges ..) rfl rfl, ?_, ?_,
      conditionsFollow_respond _ (State.installSites_conditionsFollow _ _ s)⟩
    · rw [← SiteRecord.amended_of_link x hl]
      exact State.putSite_siteBecomes i _ s
    · rw [State.respond_solver, State.putSite_solver, SiteRecord.planView_amended _ hl, Bool.or_assoc]

end Sys2Proof.Machine
end

section
/-! Proofs of the family of the site table, continued: SITE.READ, SITE.RETIRE and NOTICE.TAKE. -/

namespace Sys2Proof.Machine

/-! ### Conditions handed on one after another -/

/-- Conditions handed on by two arrivals in turn all follow their sources, where the second leaves the sources of what only the
first hands on (R169). -/
theorem conditionsFollow_trans {l m : List Cause} {s t u : State} (h : conditionsFollow l s t) (k : conditionsFollow m t u)
    (hsame : ∀ c ∈ l, c ∉ m → (u.holdsCause c ↔ t.holdsCause c)) : conditionsFollow (l ++ m) s u := by
  obtain ⟨hmask, hcal, hcauses⟩ := h
  obtain ⟨kmask, kcal, kcauses⟩ := k
  refine ⟨kmask.trans hmask, kcal.trans hcal, fun c => ?_⟩
  have hc := hcauses c
  have kc := kcauses c
  by_cases hm : c ∈ m
  · rw [if_pos hm] at kc
    rwa [if_pos (List.mem_append_right l hm)]
  rw [if_neg hm] at kc
  by_cases hl : c ∈ l
  · rw [if_pos hl] at hc
    rw [if_pos (List.mem_append_left m hl), kc, hc, hsame c hl hm]
  · rw [if_neg hl] at hc
    rw [if_neg (by simp [hl, hm]), kc, hc]

/-- Conditions that follow their sources still do where neither the attention unit nor a source changes. -/
theorem conditionsFollow_of_same {l : List Cause} {s t u : State} (h : conditionsFollow l s t) (ha : u.attention = t.attention)
    (hsame : ∀ c ∈ l, u.holdsCause c ↔ t.holdsCause c) : conditionsFollow l s u := by
  obtain ⟨hmask, hcal, hcauses⟩ := h
  refine ⟨by rw [ha, hmask], by rw [ha, hcal], fun c => ?_⟩
  have hc := hcauses c
  by_cases hl : c ∈ l
  · rw [if_pos hl] at hc ⊢
    rw [ha, hc, hsame c hl]
  · rw [if_neg hl] at hc ⊢
    rw [ha, hc]

/-! ### SITE.READ -/

theorem bytesOf_zero (n : Nat) : bytesOf n 0 = zeroBytes n := by
  induction n with
  | zero => rfl
  | succ n ih => rw [bytesOf, Nat.zero_div, ih, zeroBytes, zeroBytes, List.replicate_succ']; rfl

/-- An absent number is sent as 0 (R181). -/
theorem optionalItem_bytesOf {α : Type} (n : Nat) (f : α → Nat) (o : Option α) :
    optionalItem n (fun a => bytesOf n (f a)) o = bytesOf n ((o.map f).getD 0) := by
  cases o with
  | none => exact (bytesOf_zero n).symm
  | some a => rfl

/-- The presence field of SITE.READ (R37): d and the reported delay come and go together. -/
theorem presenceByte_siteRead (e u a j n : Bool) :
    presenceByte [e, u, a, j, e, n] = byteOf (136 * e.toNat + (64 * u.toNat + 32 * a.toNat + 16 * j.toNat) + 4 * n.toNat) := by
  refine congrArg (BitVec.ofNat 8) ?_
  simp only [List.foldl_cons, List.foldl_nil, List.length_cons, List.length_nil]
  omega

theorem SiteRecord.siteHeld_eq (r : SiteRecord) : r.siteHeld = decide (r.phase = .suspended true) := by
  rw [Bool.eq_iff_iff, SiteRecord.siteHeld_iff, decide_eq_true_iff]

section
variable {site acknowledge : Byte} {i : SiteNo} {s : State}

theorem siteReadBlock_of_no_site (h : siteNo? site = none) : siteReadBlock site acknowledge s = refuse .badValue s := by
  simp only [siteReadBlock, h]

theorem siteReadBlock_of_vacant (hi : siteNo? site = some i) (h : (s.sites.get i).state = .vacant) :
    siteReadBlock site acknowledge s = refuse .noSuch s := by
  simp only [siteReadBlock, hi, if_pos h]

theorem siteReadBlock_of_idle (hi : siteNo? site = some i) (hv : (s.sites.get i).state ≠ .vacant)
    (h : acknowledge = 0 ∨ (s.sites.get i).est = none) :
    siteReadBlock site acknowledge s =
      ({ code := .ok, data := (s.sites.get i).readData s.config.growth i false }, s) := by
  have hacts : (isYes acknowledge && (s.sites.get i).everAligned) = false := by
    rcases h with h | h <;> simp [h, isYes, SiteRecord.everAligned]
  simp only [siteReadBlock, hi, if_neg hv, hacts, Bool.false_eq_true, if_false]

theorem siteReadBlock_of_acknowledged (hi : siteNo? site = some i) (hv : (s.sites.get i).state ≠ .vacant)
    (ha : acknowledge ≠ 0) {e : Estimate} (he : (s.sites.get i).est = some e) :
    siteReadBlock site acknowledge s =
      ({ code := .ok, data := (s.sites.get i).readData s.config.growth i true },
        s.putSite i ((s.sites.get i).acknowledged s.config.driftThreshold)) := by
  have hacts : (isYes acknowledge && (s.sites.get i).everAligned) = true := by
    rw [Bool.and_eq_true, isYes, decide_eq_true_iff, SiteRecord.everAligned, he]
    exact ⟨ha, rfl⟩
  simp only [siteReadBlock, hi, if_neg hv, hacts, if_true]

end

/-- An acknowledgement sets the reported delay to d, so that no drift is pending (R38, R39). -/
theorem SiteRecord.acknowledged_of_est {r : SiteRecord} {e : Estimate} (threshold : Nat) (h : r.est = some e) :
    r.acknowledged threshold = { r with est := some { d := e.d, reported := e.d }, drift := false } := by
  simp [SiteRecord.acknowledged, SiteRecord.redrift, driftRule, h]

/-- Settles O26, by the phase of the record read for its data, and by whether the acknowledgement takes effect (R37, R38). -/
theorem siteReadAndAcknowledge : Obligations.SiteReadAndAcknowledge := by
  refine ⟨⟨rfl, rfl⟩, fun site acknowledge s hs => ⟨fun h => ?_, fun i hval => ?_⟩⟩
  · exact declined_of_refuse (k := .readyOnly) rfl hs (siteReadBlock_of_no_site (siteNo?_of_out_of_range h))
  have hi := siteNo?_of_val hval
  refine ⟨fun hv => declined_of_refuse (k := .readyOnly) rfl hs (siteReadBlock_of_vacant hi hv), ?_⟩
  rintro hv r data rfl hdata
  have hread (b : Bool) : data (boolByte b) = (s.sites.get i).readData s.config.growth i b := by
    subst hdata
    simp only [SiteRecord.readData, presenceByte_siteRead, optionalItem_bytesOf, SiteRecord.siteHeld_eq, SiteRecord.everAligned]
    cases (s.sites.get i).link <;> cases (s.sites.get i).notice <;>
      cases hp : (s.sites.get i).phase <;>
        simp [SiteRecord.u, SiteRecord.h, SiteRecord.acquisition?, SiteRecord.jump?, hp, sampleList, listItem, optionalItem,
          bytesOf_zero, zeroBytes, byteOf, signedBytesOf]
  refine ⟨fun h => ?_, fun e ha he => ?_⟩
  · rw [show (0 : Byte) = boolByte false from rfl, hread]
    exact reads_of_block (k := .readyOnly) rfl hs (siteReadBlock_of_idle hi hv h)
  · have hb := siteReadBlock_of_acknowledged hi hv ha he
    rw [← hread] at hb
    refine ⟨_, answers_of_block (k := .readyOnly) rfl hs hb
      (State.putSite_onlyChanges_of_same_view (SiteRecord.planView_acknowledged ..)) rfl rfl, ?_,
      conditionsFollow_respond _ (State.installSites_conditionsFollow _ _ s)⟩
    rw [← SiteRecord.acknowledged_of_est s.config.driftThreshold he]
    exact State.putSite_siteBecomes i _ s

/-! ### SITE.RETIRE -/

section
variable {site : Byte} {i : SiteNo} {s : State}

theorem siteRetireBlock_of_no_site (h : siteNo? site = none) : siteRetireBlock site s = refuse .badValue s := by
  simp only [siteRetireBlock, h]

theorem siteRetireBlock_of_vacant (hi : siteNo? site = some i) (h : (s.sites.get i).state = .vacant) :
    siteRetireBlock site s = refuse .noSuch s := by
  simp only [siteRetireBlock, hi, h]

theorem siteRetireBlock_of_retiring (hi : siteNo? site = some i) (h : (s.sites.get i).state = .retiring) :
    siteRetireBlock site s = refuse .busy s := by
  simp only [siteRetireBlock, hi, h]

theorem siteRetireBlock_of_serving (hi : siteNo? site = some i) (hv : (s.sites.get i).state ≠ .vacant)
    (hr : (s.sites.get i).state ≠ .retiring) :
    siteRetireBlock site s = accept ((s.putSite i (s.sites.get i).enterRetiring).removeFromZones i) := by
  cases h : (s.sites.get i).state with
  | vacant => exact absurd h hv
  | retiring => exact absurd h hr
  | probing | aligned | holdover | suspect | suspended => simp only [siteRetireBlock, hi, h]

end

theorem ZoneBody.hasMember_iff (i : SiteNo) (b : ZoneBody) : b.hasMember i = true ↔ ∃ m ∈ b.members, m.1 = i := by
  simp [ZoneBody.hasMember]

theorem ZoneRecord.withoutSite_of_member {i : SiteNo} {z : ZoneRecord} {b : ZoneBody} (h : z.body = some b)
    (hm : ∃ m ∈ b.members, m.1 = i) : z.withoutSite i = { body := some (b.without i), revision := z.revision + 1 } := by
  simp only [ZoneRecord.withoutSite, h, if_pos ((ZoneBody.hasMember_iff i b).mpr hm)]

theorem ZoneRecord.withoutSite_of_no_member {i : SiteNo} {z : ZoneRecord}
    (h : ∀ b, z.body = some b → ∀ m ∈ b.members, m.1 ≠ i) : z.withoutSite i = z := by
  rcases ZoneRecord.withoutSite_cases i z with ⟨-, e⟩ | ⟨b, hb, hm, -⟩
  · exact e
  · obtain ⟨m, hm, hmi⟩ := (ZoneBody.hasMember_iff i b).mp hm
    exact absurd hmi (h b hb m hm)

theorem State.removeFromZones_holdsCause (i : SiteNo) (s : State) (c : Cause) :
    (s.removeFromZones i).holdsCause c = s.holdsCause c := by
  cases c <;> rfl

theorem State.removeFromZones_get (i : SiteNo) (s : State) (z : ZoneNo) :
    (s.removeFromZones i).zones.get z = (s.zones.get z).withoutSite i := Table.get_mapIdx _ _ z

/-- A solver marked stale keeps the mark, whatever the retirement does to the zones (R117). -/
theorem State.removeFromZones_markedStale {s t : State} (i : SiteNo) (h : markedStale s t) :
    markedStale s (t.removeFromZones i) := by
  rw [markedStale] at h ⊢
  simp [State.removeFromZones, State.markStaleIf, h]

/-- Settles O28, by the refusals of R33 and the removal of R114 zone by zone. -/
theorem siteRetireLeavesZones : Obligations.SiteRetireLeavesZones := by
  intro site s hs
  refine ⟨fun h => ?_, fun i hval => ?_⟩
  · exact declined_of_refuse (k := .readyOnly) rfl hs (siteRetireBlock_of_no_site (siteNo?_of_out_of_range h))
  have hi := siteNo?_of_val hval
  refine ⟨fun hv => declined_of_refuse (k := .readyOnly) rfl hs (siteRetireBlock_of_vacant hi hv),
    fun hr => declined_of_refuse (k := .readyOnly) rfl hs (siteRetireBlock_of_retiring hi hr), fun hv hr => ?_⟩
  have hb := siteRetireBlock_of_serving hi hv hr
  have honly := siteRetireBlock_onlyChanges s site
  rw [hb] at honly
  have hmoved : (s.sites.get i).enterRetiring.state ≠ (s.sites.get i).state := fun e => hr e.symm
  refine ⟨_, answers_of_block (k := .readyOnly) rfl hs hb honly rfl rfl, State.putSite_siteBecomes i _ s,
    State.removeFromZones_markedStale i (State.putSite_markedStale hmoved), conditionsFollow_respond _ ?_, fun z => ?_⟩
  · exact conditionsFollow_of_same (State.installSites_conditionsFollow _ _ s) rfl fun c _ =>
      iff_of_eq (State.removeFromZones_holdsCause i _ c)
  · have hget := State.removeFromZones_get i (s.putSite i (s.sites.get i).enterRetiring) z
    exact ⟨fun b hbody hm => hget.trans (ZoneRecord.withoutSite_of_member hbody hm),
      fun h => hget.trans (ZoneRecord.withoutSite_of_no_member h)⟩

/-! ### NOTICE.TAKE -/

/-- A new notice order leaves the sources of the other conditions. -/
theorem State.setNoticeOrder_holdsCause (l : List SiteNo) (s : State) {c : Cause} (h : c ≠ .notice) :
    (s.setNoticeOrder l).holdsCause c ↔ s.holdsCause c := by
  cases c with
  | notice => exact absurd rfl h
  | fault | cal | zone | suspect | holdover | step | report | drift => exact Iff.rfl

/-- Settles O29: the head of the notice order gives its notice and leaves the list (R104, R105). -/
theorem noticeTakeRemovesHead : Obligations.NoticeTakeRemovesHead := by
  intro s hs
  refine ⟨fun h => ?_, fun i rest n h hn => ?_⟩
  · refine declined_of_refuse (k := .readyOnly) (block := noticeTakeBlock) rfl hs ?_
    simp only [noticeTakeBlock, h]
  have hb : noticeTakeBlock s = ({ code := .ok, data := noticeData i n rest.length },
      (s.putSite i { s.sites.get i with notice := none }).setNoticeOrder rest) := by
    simp only [noticeTakeBlock, h, hn]
  have honly := noticeTakeBlock_onlyChanges s
  rw [hb] at honly
  refine ⟨_, answers_of_block (k := .readyOnly) rfl hs hb honly rfl rfl, State.putSite_siteBecomes i _ s, rfl,
    conditionsFollow_respond _ ?_⟩
  refine conditionsFollow_trans (l := [.suspect, .holdover, .drift]) (State.installSites_conditionsFollow _ _ s)
    (State.setNoticeOrder_conditionsFollow rest _) fun c _ hc => State.setNoticeOrder_holdsCause rest _ fun e => hc ?_
  exact e ▸ List.mem_singleton_self _

end Sys2Proof.Machine
end

section
/-! Proofs of the families of the overlap zones and of trunk configuration: ZONE.DEFINE, ZONE.DELETE, and a TRUNK.SET that does
not disable its trunk. -/

namespace Sys2Proof.Machine

/-! ### Site numbers as bytes -/

theorem toNat_siteByte (i : SiteNo) : (BitVec.ofNat 8 i.val).toNat = i.val := by
  have hlt := i.isLt
  simp only [BitVec.toNat_ofNat]
  omega

theorem siteNo?_siteByte (i : SiteNo) : siteNo? (BitVec.ofNat 8 i.val) = some i := siteNo?_of_val (toNat_siteByte i).symm

theorem siteNo?_some {b : Byte} {i : SiteNo} (h : siteNo? b = some i) : b = BitVec.ofNat 8 i.val := by
  unfold siteNo? at h
  split at h
  next hlt =>
    cases h
    exact BitVec.eq_of_toNat_eq (toNat_siteByte ⟨b.toNat, hlt⟩).symm
  · cases h

theorem siteByte_injective : Function.Injective fun i : SiteNo => BitVec.ofNat 8 i.val := fun i j h => by
  have hnat := congrArg BitVec.toNat h
  simp only [toNat_siteByte] at hnat
  exact Fin.ext hnat

/-! ### The operands of ZONE.DEFINE (R110) -/

/-- A member as a ZONE.DEFINE carries it. -/
def memberOperand (m : SiteNo × Nat) : Byte × BitVec 16 := (BitVec.ofNat 8 m.1.val, BitVec.ofNat 16 m.2)

/-- The members that are read are those that were carried. -/
theorem members?_eq_some {l : List (Byte × BitVec 16)} {ms : List (SiteNo × Nat)} (h : members? l = some ms) :
    l = ms.map memberOperand := by
  induction l generalizing ms with
  | nil =>
    cases h
    rfl
  | cons x rest ih =>
    obtain ⟨b, p⟩ := x
    simp only [members?] at h
    split at h
    next i ms' hi hms =>
      cases h
      rw [List.map_cons, ← ih hms, siteNo?_some hi, memberOperand, BitVec.ofNat_toNat, BitVec.setWidth_eq]
    · cases h

theorem members?_map {ms : List (SiteNo × Nat)} (h : ∀ m ∈ ms, m.2 ≤ 65535) : members? (ms.map memberOperand) = some ms := by
  induction ms with
  | nil => rfl
  | cons m rest ih =>
    obtain ⟨hm, hrest⟩ := List.forall_mem_cons.mp h
    have hp : (BitVec.ofNat 16 m.2).toNat = m.2 := by
      rw [BitVec.toNat_ofNat]
      omega
    rw [List.map_cons, memberOperand, members?, siteNo?_siteByte, ih hrest, hp]

theorem map_fst_memberOperand (ms : List (SiteNo × Nat)) :
    (ms.map memberOperand).map Prod.fst = (ms.map Prod.fst).map fun i => BitVec.ofNat 8 i.val := by
  simp [memberOperand]

theorem yieldMember?_siteOrNone {ms : List (SiteNo × Nat)} {o : Option SiteNo} (h : ∀ y ∈ o, y ∈ ms.map Prod.fst) :
    yieldMember? (siteOrNone o) ms = some o := by
  cases o with
  | none => rfl
  | some i =>
    have hlt := i.isLt
    have hne : ¬BitVec.ofNat 8 i.val = 255 := fun e => by
      have hnat : i.val = 255 := (toNat_siteByte i).symm.trans (congrArg BitVec.toNat e)
      omega
    have hany : ms.any (fun m => decide (m.1 = i)) = true := by simpa using h i rfl
    simp only [yieldMember?, siteOrNone, if_neg hne, siteNo?_siteByte, if_pos hany]

theorem zoneBody?_of_lawful {b : ZoneBody} (h : b.lawful) (hlen : 2 ≤ b.members.length) :
    zoneBody? (BitVec.ofNat 16 b.tolerance) (siteOrNone b.yieldMember) (b.members.map memberOperand) = some b := by
  obtain ⟨hnodup, hsix, ⟨htol, htol'⟩, hp, hy⟩ := h
  have hnat : (BitVec.ofNat 16 b.tolerance).toNat = b.tolerance := by
    rw [BitVec.toNat_ofNat]
    omega
  have hzero : BitVec.ofNat 16 b.tolerance ≠ 0 := fun e => by
    have hz : b.tolerance = 0 := hnat.symm.trans (congrArg BitVec.toNat e)
    omega
  have htests : ¬((b.members.map memberOperand).length < 2 ∨ 6 < (b.members.map memberOperand).length
      ∨ BitVec.ofNat 16 b.tolerance = 0) := by
    rw [List.length_map]
    rintro (h | h | h)
    · omega
    · omega
    · exact hzero h
  simp only [zoneBody?, if_neg htests, members?_map hp, hasDuplicate, hnodup, decide_true, Bool.not_true, Bool.false_eq_true,
    if_false, yieldMember?_siteOrNone hy, hnat]

/-- What a body that passes the tests of R110 tells of the values carried. -/
theorem zoneBody?_some {tolerance : BitVec 16} {y : Byte} {l : List (Byte × BitVec 16)} {b : ZoneBody}
    (h : zoneBody? tolerance y l = some b) :
    ¬(l.length < 2 ∨ 6 < l.length ∨ tolerance = 0) ∧ members? l = some b.members ∧ (b.members.map Prod.fst).Nodup
      ∧ yieldMember? y b.members = some b.yieldMember := by
  unfold zoneBody? at h
  split at h
  · cases h
  next htests =>
    split at h
    · cases h
    next ms hms =>
      split at h
      · cases h
      next hdup =>
        split at h
        next o ho =>
          cases h
          exact ⟨htests, hms, by simpa [hasDuplicate] using hdup, ho⟩
        · cases h

/-- The tests of R110 on the values alone refuse each of their faults. -/
theorem zoneBody?_of_fault {tolerance : BitVec 16} {y : Byte} {l : List (Byte × BitVec 16)}
    (h : l.length < 2 ∨ 6 < l.length ∨ tolerance = 0 ∨ (∃ m ∈ l, 64 ≤ m.1.toNat) ∨ ¬(l.map Prod.fst).Nodup
      ∨ (y ≠ 255 ∧ y ∉ l.map Prod.fst)) : zoneBody? tolerance y l = none := by
  rw [Option.eq_none_iff_forall_ne_some]
  intro b hb
  obtain ⟨htests, hms, hnodup, hy⟩ := zoneBody?_some hb
  have hl := members?_eq_some hms
  have hfst : l.map Prod.fst = (b.members.map Prod.fst).map fun i => BitVec.ofNat 8 i.val := by
    rw [hl, map_fst_memberOperand]
  rcases h with h | h | h | ⟨m, hm, hout⟩ | hdup | ⟨hne, hnot⟩
  · exact htests (.inl h)
  · exact htests (.inr (.inl h))
  · exact htests (.inr (.inr h))
  · rw [hl] at hm
    obtain ⟨x, -, rfl⟩ := List.mem_map.mp hm
    have hlt := x.1.isLt
    rw [memberOperand, toNat_siteByte] at hout
    omega
  · exact hdup (hfst ▸ hnodup.map siteByte_injective)
  · simp only [yieldMember?, if_neg hne] at hy
    split at hy
    next i hi =>
      split at hy
      next hany =>
        refine hnot (hfst ▸ List.mem_map.mpr ⟨i, ?_, (siteNo?_some hi).symm⟩)
        simpa using hany
      · cases hy
    · cases hy

/-! ### ZONE.DEFINE and ZONE.DELETE -/

section
variable {zone y : Byte} {tolerance : BitVec 16} {members : List (Byte × BitVec 16)} {z : ZoneNo} {b : ZoneBody} {s : State}

theorem zoneNo?_of_out_of_range (h : 32 ≤ zone.toNat) : zoneNo? zone = none := dif_neg (Nat.not_lt.mpr h)

theorem zoneNo?_of_val (h : z.val = zone.toNat) : zoneNo? zone = some z := by
  have hlt : zone.toNat < 32 := h ▸ z.isLt
  rw [zoneNo?, dif_pos hlt, Option.some_inj]
  exact Fin.ext h.symm

theorem zoneDefineBlock_of_fault (h : zoneNo? zone = none ∨ zoneBody? tolerance y members = none) :
    zoneDefineBlock zone tolerance y members s = refuse .badValue s := by
  unfold zoneDefineBlock
  split
  next hz hb => simp [hz, hb] at h
  · rfl

theorem zoneDefineBlock_of_body (hz : zoneNo? zone = some z) (hb : zoneBody? tolerance y members = some b) :
    zoneDefineBlock zone tolerance y members s =
      if b.members.any (fun m => (s.sites.get m.1).state.refusedAsMember) then refuse .noSuch s
      else accept (s.putZone z (some b)) := by
  simp only [zoneDefineBlock, hz, hb]

theorem zoneDeleteBlock_of_no_zone (h : zoneNo? zone = none) : zoneDeleteBlock zone s = refuse .badValue s := by
  simp only [zoneDeleteBlock, h]

theorem zoneDeleteBlock_of_zone (hz : zoneNo? zone = some z) :
    zoneDeleteBlock zone s =
      if (s.zones.get z).body.isSome then accept (s.putZone z none) else refuse .noSuch s := by
  simp only [zoneDeleteBlock, hz]

end

theorem SiteState.refusedAsMember_iff (x : SiteState) : x.refusedAsMember = true ↔ x = .vacant ∨ x = .retiring := by
  cases x <;> decide

theorem State.putZone_zoneBecomes (z : ZoneNo) (b : Option ZoneBody) (s : State) :
    zoneBecomes z { body := b, revision := (s.zones.get z).revision + 1 } s (s.putZone z b) :=
  ⟨Table.get_set_self _ z _, fun _ hj => Table.get_set_ne _ hj _⟩

/-- Settles O30: the tests of R110 on the values and on the members' states, and the zones that R112 finds defined. -/
theorem zoneDefineAndDelete : Obligations.ZoneDefineAndDelete := by
  intro s hs
  refine ⟨fun zone tolerance y members h => ?_, ?_, fun zone h => ?_, fun zone z hval => ⟨fun h => ?_, fun h => ?_⟩⟩
  · exact declined_of_refuse (k := .readyOnly) rfl hs
      (zoneDefineBlock_of_fault (h.imp zoneNo?_of_out_of_range zoneBody?_of_fault))
  · rintro zone z b members hval hlawful hlen rfl
    have hb := zoneDefineBlock_of_body (s := s) (zoneNo?_of_val hval) (zoneBody?_of_lawful hlawful hlen)
    refine ⟨fun ⟨m, hm, hstate⟩ => ?_, fun h => ?_⟩
    · rw [if_pos (List.any_eq_true.mpr ⟨m, hm, (SiteState.refusedAsMember_iff _).mpr hstate⟩)] at hb
      exact declined_of_refuse (k := .readyOnly) rfl hs hb
    · have hserve : ¬b.members.any (fun m => (s.sites.get m.1).state.refusedAsMember) = true := by
        simp only [List.any_eq_true, SiteState.refusedAsMember_iff]
        rintro ⟨m, hm, hstate⟩
        exact hstate.elim (h m hm).1 (h m hm).2
      rw [if_neg hserve] at hb
      exact ⟨_, answers_of_block (k := .readyOnly) rfl hs hb (State.putZone_onlyChanges ..) rfl rfl,
        State.putZone_zoneBecomes z (some b) s, rfl⟩
  · exact declined_of_refuse (k := .readyOnly) rfl hs (zoneDeleteBlock_of_no_zone (zoneNo?_of_out_of_range h))
  · exact declined_of_refuse (k := .readyOnly) rfl hs
      ((zoneDeleteBlock_of_zone (zoneNo?_of_val hval)).trans (if_neg (by simp [h])))
  · exact ⟨_, answers_of_block (k := .readyOnly) rfl hs
      ((zoneDeleteBlock_of_zone (zoneNo?_of_val hval)).trans (if_pos (Option.isSome_iff_ne_none.mpr h)))
      (State.putZone_onlyChanges ..) rfl rfl, State.putZone_zoneBecomes z none s, rfl⟩

/-! ### TRUNK.SET -/

section
variable {trunk enable gran : Byte} {rate benchDelay : BitVec 24} {k : TrunkNo} {r : BitRate} {g : Granularity} {s : State}

theorem rate?_eq_some_iff : rate? rate = some r ↔ r.bps = rate.toNat := by
  unfold rate?
  split <;> cases r <;> simp_all [BitRate.bps] <;> omega

theorem gran?_eq_some_iff : gran? gran = some g ↔ g.du = gran.toNat := by
  unfold gran?
  split <;> cases g <;> simp_all [Granularity.du] <;> omega

theorem trunkSetBlock_of_fault (h : trunkNo? trunk = none ∨ rate? rate = none ∨ gran? gran = none) :
    trunkSetBlock trunk enable rate gran benchDelay s = refuse .badValue s := by
  unfold trunkSetBlock
  split
  · rfl
  next hk =>
    split
    next hr hg => simp [hk, hr, hg] at h
    · rfl

theorem trunkSetBlock_of_operands (hk : k.val = trunk.toNat) (hr : r.bps = rate.toNat) (hg : g.du = gran.toNat) :
    trunkSetBlock trunk enable rate gran benchDelay s =
      if (s.trunks.get k).enable = true ∧ (r ≠ (s.trunks.get k).rate ∨ g ≠ (s.trunks.get k).gran) then refuse .trunkActive s
      else accept (s.configureTrunk k (isYes enable) r g benchDelay.toNat) := by
  simp only [trunkSetBlock, trunkNo?_of_val hk, rate?_eq_some_iff.mpr hr, gran?_eq_some_iff.mpr hg]

theorem State.putTrunk_trunkBecomes (k : TrunkNo) (x : Trunk) (s : State) : trunkBecomes k x s (s.putTrunk k x) :=
  ⟨Table.get_set_self _ k x, fun _ hj => Table.get_set_ne _ hj x⟩

theorem State.configureTrunk_of_enabling (h : (s.trunks.get k).enable = false) (d : Nat) :
    s.configureTrunk k true r g d =
      ((s.putTrunk k ((s.trunks.get k).configured r g d)).enableTrunk k) := by
  simp only [State.configureTrunk, h]

theorem State.configureTrunk_of_unchanged {e : Bool} (h : (s.trunks.get k).enable = e) (d : Nat) :
    s.configureTrunk k e r g d = s.putTrunk k ((s.trunks.get k).configured r g d) := by
  cases e <;> simp only [State.configureTrunk, h]

theorem State.enableTrunk_onlyChanges (k : TrunkNo) (s : State) : onlyChanges [.trunks, .solver] s (s.enableTrunk k) :=
  onlyChanges_trans (onlyChanges_mono (State.putTrunk_onlyChanges ..) (by decide))
    (onlyChanges_mono (State.markStale_onlyChanges _) (by decide))

end

/-- Settles O22, by the refusals of R69 and the levels of enable before and after (R70, R71). -/
theorem trunkSetConfiguresAndEnables : Obligations.TrunkSetConfiguresAndEnables := by
  intro trunk enable gran rate benchDelay s hs
  refine ⟨fun h => ?_, fun k r g hk hr hg => ?_⟩
  · refine declined_of_refuse (k := .readyOnly) rfl hs (trunkSetBlock_of_fault ?_)
    refine h.imp trunkNo?_of_out_of_range (Or.imp (fun h => ?_) fun h => ?_)
    · exact Option.eq_none_iff_forall_ne_some.mpr fun r hr => h r (rate?_eq_some_iff.mp hr)
    · exact Option.eq_none_iff_forall_ne_some.mpr fun g hg => h g (gran?_eq_some_iff.mp hg)
  have hb := trunkSetBlock_of_operands (enable := enable) (benchDelay := benchDelay) (s := s) hk hr hg
  refine ⟨fun he h => ?_, fun he hyes => ?_, fun h => ?_⟩
  · rw [if_pos ⟨he, h.imp Ne.symm Ne.symm⟩] at hb
    exact declined_of_refuse (k := .readyOnly) rfl hs hb
  · rw [if_neg (fun h => Bool.false_ne_true (he.symm.trans h.1)), show isYes enable = true from decide_eq_true hyes,
      State.configureTrunk_of_enabling he] at hb
    have honly := onlyChanges_trans (onlyChanges_mono (State.putTrunk_onlyChanges k ((s.trunks.get k).configured r g
        benchDelay.toNat) s) (by decide)) (State.enableTrunk_onlyChanges k _)
    refine ⟨_, answers_of_block (k := .readyOnly) rfl hs hb honly rfl rfl, rfl, ?_, fun j hj => ?_⟩
    · simp [State.enableTrunk, State.putTrunk, Trunk.enabled, Trunk.configured, after, BenchResponder.empty]
    · simp [State.enableTrunk, State.putTrunk, hj]
  · have hsame : (s.trunks.get k).enable = isYes enable := by
      rcases h with ⟨he, hno⟩ | ⟨he, hyes, -⟩
      · rw [he, hno]; rfl
      · rw [he]
        exact (decide_eq_true hyes).symm
    have hkeep : ¬((s.trunks.get k).enable = true ∧ (r ≠ (s.trunks.get k).rate ∨ g ≠ (s.trunks.get k).gran)) := by
      rintro ⟨he, hne⟩
      rcases h with ⟨he', -⟩ | ⟨-, -, hrate, hgran⟩
      · rw [he] at he'
        cases he'
      · exact hne.elim (fun h => h hrate.symm) fun h => h hgran.symm
    rw [if_neg hkeep, State.configureTrunk_of_unchanged hsame] at hb
    exact ⟨_, answers_of_block (k := .readyOnly) rfl hs hb (State.putTrunk_onlyChanges ..) rfl rfl,
      State.putTrunk_trunkBecomes k _ s⟩

end Sys2Proof.Machine
end

section
/-! Proofs of the family of the alignment solve, continued: the zone verdicts and the mutes, the snapshot, and the publication
with the retire-completion test. -/

namespace Sys2Proof.Machine

/-! ### The spread of arrivals (R135) -/

/-- A running maximum is the greatest of what it has met. -/
theorem foldl_max_isGreatest {α β : Type} [LinearOrder β] (f : α → β) (l : List α) (init : β) :
    IsGreatest {b | b = init ∨ ∃ y ∈ l, b = f y} (l.foldl (fun acc y => max acc (f y)) init) := by
  induction l generalizing init with
  | nil => exact ⟨.inl rfl, by rintro b (rfl | ⟨y, hy, -⟩); exacts [le_rfl, absurd hy List.not_mem_nil]⟩
  | cons x rest ih =>
    obtain ⟨hmem, hupper⟩ := ih (max init (f x))
    refine ⟨?_, ?_⟩
    · rcases hmem with h | ⟨y, hy, h⟩
      · rcases max_choice init (f x) with e | e
        · exact .inl (h.trans e)
        · exact .inr ⟨x, List.mem_cons_self, h.trans e⟩
      · exact .inr ⟨y, List.mem_cons_of_mem x hy, h⟩
    · have hinit := hupper (.inl rfl)
      rintro b (rfl | ⟨y, hy, rfl⟩)
      · exact (le_max_left _ _).trans hinit
      · rcases List.mem_cons.mp hy with rfl | hy
        · exact (le_max_right _ _).trans hinit
        · exact hupper (.inr ⟨y, hy, rfl⟩)

/-- A running minimum is the least of what it has met. -/
theorem foldl_min_isLeast {α : Type} (f : α → Int) (l : List α) (init : Int) :
    IsLeast {b | b = init ∨ ∃ y ∈ l, b = f y} (l.foldl (fun acc y => min acc (f y)) init) :=
  foldl_max_isGreatest (β := Intᵒᵈ) f l init

/-- The range of an arrival, from a − u to a + u (R135). -/
def Arrival.range (x : Arrival) : Int × Int := ((x.a : Int) - x.u, (x.a : Int) + x.u)

/-- The spread is the largest difference between an upper and a lower end of the arrivals' ranges. -/
theorem spreadOf_spec {l : List Arrival} (h : l ≠ []) :
    (∀ x ∈ l, ∀ y ∈ l, y.range.2 - x.range.1 ≤ spreadOf l) ∧ ∃ x ∈ l, ∃ y ∈ l, y.range.2 - x.range.1 = spreadOf l := by
  cases l with
  | nil => exact absurd rfl h
  | cons z rest =>
    obtain ⟨hmaxmem, hmax⟩ := foldl_max_isGreatest (fun y : Arrival => (y.a : Int) + y.u) rest ((z.a : Int) + z.u)
    obtain ⟨hminmem, hmin⟩ := foldl_min_isLeast (fun y : Arrival => (y.a : Int) - y.u) rest ((z.a : Int) - z.u)
    simp only [spreadOf]
    generalize rest.foldl (fun acc y => max acc ((y.a : Int) + y.u)) ((z.a : Int) + z.u) = latest at hmaxmem hmax ⊢
    generalize rest.foldl (fun acc y => min acc ((y.a : Int) - y.u)) ((z.a : Int) - z.u) = earliest at hminmem hmin ⊢
    have hle (y : Arrival) (hy : y ∈ z :: rest) : y.range.2 ≤ latest ∧ earliest ≤ y.range.1 := by
      rcases List.mem_cons.mp hy with rfl | hy
      · exact ⟨hmax (.inl rfl), hmin (.inl rfl)⟩
      · exact ⟨hmax (.inr ⟨y, hy, rfl⟩), hmin (.inr ⟨y, hy, rfl⟩)⟩
    have hlatest : ∃ y ∈ z :: rest, y.range.2 = latest := by
      rcases hmaxmem with h | ⟨y, hy, h⟩
      · exact ⟨z, List.mem_cons_self, h.symm⟩
      · exact ⟨y, List.mem_cons_of_mem z hy, h.symm⟩
    have hearliest : ∃ x ∈ z :: rest, x.range.1 = earliest := by
      rcases hminmem with h | ⟨x, hx, h⟩
      · exact ⟨z, List.mem_cons_self, h.symm⟩
      · exact ⟨x, List.mem_cons_of_mem z hx, h.symm⟩
    have hspan : earliest ≤ latest := by
      obtain ⟨hz, hz'⟩ := hle z List.mem_cons_self
      simp only [Arrival.range] at hz hz'
      omega
    refine ⟨fun x hx y hy => ?_, ?_⟩
    · obtain ⟨-, hx⟩ := hle x hx
      obtain ⟨hy, -⟩ := hle y hy
      omega
    · obtain ⟨y, hy, hylatest⟩ := hlatest
      obtain ⟨x, hx, hxearliest⟩ := hearliest
      exact ⟨x, hx, y, hy, by omega⟩

/-! ### Verdicts (R136, R138, R140) -/

/-- The verdict and the spread over the members that count. -/
def Snapshot.judged (n : Snapshot) (counts : SiteNo → Bool) (b : ZoneBody) : Verdict × Option Nat :=
  if n.calibrated then judgeZone b.tolerance (n.arrivals counts b) else (.indeterminate, none)

theorem Snapshot.firstPass_eq (n : Snapshot) (b : ZoneBody) : n.firstPass b = n.judged (fun _ => true) b := rfl

theorem Snapshot.secondPass_eq (n : Snapshot) (b : ZoneBody) : n.secondPass b = n.judged (fun i => !n.muted i) b := rfl

theorem judgeZone_of_few {l : List Arrival} (tolerance : Nat) (h : l.length < 2) : judgeZone tolerance l = (.indeterminate, none) :=
  if_pos h

theorem judgeZone_of_two {l : List Arrival} (tolerance : Nat) (h : 2 ≤ l.length) :
    judgeZone tolerance l = (if spreadOf l ≤ tolerance then .satisfied else .violated, some (spreadOf l)) := by
  rw [judgeZone, if_neg (Nat.not_lt.mpr h)]
  split <;> rfl

/-- A verdict is VIOLATED exactly when two members' ranges lie further apart than the tolerance. -/
theorem Snapshot.judged_violated_iff (n : Snapshot) (counts : SiteNo → Bool) (b : ZoneBody) :
    (n.judged counts b).1 = .violated ↔
      n.calibrated = true ∧ 2 ≤ (n.arrivals counts b).length ∧ b.tolerance < spreadOf (n.arrivals counts b) := by
  unfold Snapshot.judged
  cases n.calibrated with
  | false => simp
  | true =>
    rcases Nat.lt_or_ge (n.arrivals counts b).length 2 with h | h
    · simp [judgeZone_of_few _ h, Nat.not_le.mpr h]
    · simp [judgeZone_of_two _ h, h]

/-- The verdict that a solve forms is the one the claim on zones describes. -/
theorem Snapshot.judged_zoneJudged (n : Snapshot) (counts : SiteNo → Bool) (b : ZoneBody) :
    zoneJudged n counts b (n.judged counts b).1 (n.judged counts b).2 := by
  intro ranges hranges
  have hmap : ranges = (n.arrivals counts b).map Arrival.range := by
    rw [hranges, Snapshot.arrivals, List.map_filterMap]
    refine List.filterMap_congr fun m _ => ?_
    cases n.sites.get m.1 with
    | ineligible r => rfl
    | eligible e =>
      cases counts m.1 with
      | false => rfl
      | true => simp [Arrival.range]
  have hlen : ranges.length = (n.arrivals counts b).length := by rw [hmap, List.length_map]
  rw [hlen]
  refine ⟨fun h => ?_, fun hcal h => ?_⟩
  · unfold Snapshot.judged
    cases hcal : n.calibrated with
    | false => exact ⟨rfl, rfl⟩
    | true =>
      rw [if_pos rfl, judgeZone_of_few _ (h.resolve_left (by simp [hcal]))]
      exact ⟨rfl, rfl⟩
  · have hne : n.arrivals counts b ≠ [] := fun e => by
      rw [e] at h
      exact absurd h (by decide)
    obtain ⟨hupper, x, hx, y, hy, hxy⟩ := spreadOf_spec hne
    rw [Snapshot.judged, if_pos hcal, judgeZone_of_two _ h, hmap]
    refine ⟨spreadOf (n.arrivals counts b), rfl, ?_, ⟨x.range, List.mem_map_of_mem hx, y.range, List.mem_map_of_mem hy, hxy⟩, rfl⟩
    simp only [List.forall_mem_map]
    exact hupper

/-- Fewer members that count give a sublist of the arrivals. -/
theorem Snapshot.arrivals_sublist (n : Snapshot) (counts : SiteNo → Bool) (b : ZoneBody) :
    (n.arrivals counts b).Sublist (n.arrivals (fun _ => true) b) := by
  unfold Snapshot.arrivals
  induction b.members with
  | nil => exact .slnil
  | cons m rest ih =>
    cases h : n.sites.get m.1 with
    | ineligible r => simpa [List.filterMap_cons, h] using ih
    | eligible e =>
      cases hc : counts m.1 with
      | false => simpa [List.filterMap_cons, h, hc] using ih.trans (List.sublist_cons_self _ _)
      | true => simpa [List.filterMap_cons, h, hc] using ih

/-- No mute turns a zone that passed the first pass into a violated one (R138). -/
theorem Snapshot.firstPass_of_secondPass_violated {n : Snapshot} {b : ZoneBody} (h : (n.secondPass b).1 = .violated) :
    (n.firstPass b).1 = .violated := by
  rw [Snapshot.secondPass_eq, Snapshot.judged_violated_iff] at h
  rw [Snapshot.firstPass_eq, Snapshot.judged_violated_iff]
  obtain ⟨hcal, hlen, htol⟩ := h
  have hsub := n.arrivals_sublist (fun i => !n.muted i) b
  have hlen' := hlen.trans hsub.length_le
  obtain ⟨-, x, hx, y, hy, hxy⟩ := spreadOf_spec (List.ne_nil_of_length_pos (Nat.zero_lt_of_lt hlen))
  obtain ⟨hupper, -⟩ := spreadOf_spec (List.ne_nil_of_length_pos (Nat.zero_lt_of_lt hlen'))
  have hle := hupper x (hsub.subset hx) y (hsub.subset hy)
  exact ⟨hcal, hlen', by omega⟩

/-! ### Mutes (R137, R140) -/

theorem Snapshot.muted_iff (n : Snapshot) (i : SiteNo) :
    n.muted i = true ↔ (∃ e, n.sites.get i = .eligible e)
      ∧ ∃ z ∈ n.zones, z.body.yieldMember = some i ∧ (n.firstPass z.body).1 = .violated := by
  unfold Snapshot.muted
  cases n.sites.get i <;> simp

theorem Snapshot.plan_get_of_ineligible {n : Snapshot} {i : SiteNo} {r : Reason} (epoch : Nat)
    (h : n.sites.get i = .ineligible r) : (n.plan epoch).sites.get i = .excluded r := by
  have hget : (n.plan epoch).sites.get i = n.disposition i := Table.get_tabulate n.disposition i
  rw [hget, Snapshot.disposition, h]

/-- The plan holds a site MUTED exactly when the solve mutes it (R139). -/
theorem Snapshot.plan_muted_iff (n : Snapshot) (epoch : Nat) (i : SiteNo) :
    (∃ p, (n.plan epoch).sites.get i = .muted p) ↔ n.muted i = true := by
  cases h : n.sites.get i with
  | ineligible r => simp [Snapshot.plan_get_of_ineligible epoch h, Snapshot.muted, h]
  | eligible e =>
    rw [Snapshot.plan_get_of_eligible epoch h]
    cases n.muted i <;> simp

/-- The sites that the plan does not hold MUTED count in the second pass as the unmuted ones do: no mute reaches a site that is
not eligible. -/
theorem Snapshot.judged_of_kept {n : Snapshot} {epoch : Nat} {kept : SiteNo → Bool}
    (h : ∀ i, kept i = true ↔ ∀ p, (n.plan epoch).sites.get i ≠ .muted p) (b : ZoneBody) :
    n.judged kept b = n.secondPass b := by
  obtain rfl : kept = fun i => !n.muted i := by
    funext i
    rw [Bool.eq_iff_iff, h i, Bool.not_eq_true', ← Bool.not_eq_true, ← Snapshot.plan_muted_iff n epoch i, not_exists]
  exact (n.secondPass_eq b).symm

/-- The zone entries of a plan are as the claim on plans describes them (R141). -/
theorem Snapshot.plan_zoneEntriesOf {n : Snapshot} {epoch : Nat} {kept : SiteNo → Bool}
    (h : ∀ i, kept i = true ↔ ∀ p, (n.plan epoch).sites.get i ≠ .muted p) : zoneEntriesOf n kept (n.plan epoch).zones := by
  have hzones : (n.plan epoch).zones = n.zones.map n.zoneEntry := rfl
  rw [zoneEntriesOf, hzones, List.forall₂_map_right_iff, List.forall₂_same]
  intro z _
  refine ⟨rfl, rfl, ⟨_, n.judged_zoneJudged (fun _ => true) z.body⟩, ?_⟩
  have hjudged := n.judged_zoneJudged kept z.body
  rw [Snapshot.judged_of_kept h] at hjudged
  exact hjudged

/-- Settles O34, by what makes a site MUTED, by the uncalibrated snapshot, and by the two passes over each zone. -/
theorem mutesComeFromViolations : Obligations.MutesComeFromViolations := by
  intro n epoch
  refine ⟨fun i => (n.plan_muted_iff epoch i).trans (n.muted_iff i), fun h => ?_, ?_,
    fun z _ => n.judged_zoneJudged (fun _ => true) z.body, fun kept => Snapshot.plan_zoneEntriesOf⟩
  · have hcal : n.calibrated = false := by simpa [Snapshot.plan] using h
    have hfirst (b : ZoneBody) : n.firstPass b = (.indeterminate, none) := by simp [Snapshot.firstPass, hcal]
    have hsecond (b : ZoneBody) : n.secondPass b = (.indeterminate, none) := by simp [Snapshot.secondPass, hcal]
    refine ⟨fun i p hp => ?_, fun z hz => ?_⟩
    · obtain ⟨-, z, -, -, hz⟩ := (n.muted_iff i).mp ((n.plan_muted_iff epoch i).mp ⟨p, hp⟩)
      rw [hfirst] at hz
      cases hz
    · obtain ⟨x, -, rfl⟩ := List.mem_map.mp hz
      simp [Snapshot.zoneEntry, hfirst, hsecond]
  · intro z hz hfinal
    obtain ⟨x, -, rfl⟩ := List.mem_map.mp hz
    exact Snapshot.firstPass_of_secondPass_violated hfinal

/-! ### The snapshot (R125, R126) -/

theorem State.mem_snapZones (s : State) (z : SnapZone) :
    z ∈ s.snapZones ↔ (s.zones.get z.zone).body = some z.body ∧ (s.zones.get z.zone).revision = z.revision := by
  simp only [State.snapZones, List.mem_filterMap, List.mem_finRange, true_and, Option.map_eq_some_iff]
  refine ⟨?_, fun ⟨hbody, hrev⟩ => ⟨z.zone, z.body, hbody, ?_⟩⟩
  · rintro ⟨k, b, hbody, rfl⟩
    exact ⟨hbody, rfl⟩
  · rw [hrev]

theorem SiteRecord.u_of_launches {r : SiteRecord} (g : Nat) (h : r.phase.launches = true) : ∃ u, r.u g = some u := by
  cases hp : r.phase <;> simp_all [SitePhase.launches, SiteRecord.u]

theorem Solver.mayStart_iff (v : Solver) : v.mayStart = true ↔ v.stale = true ∧ v.running = none := by
  simp [Solver.mayStart]

/-- Settles O31: the solver may start exactly when stale and IDLE, and the snapshot is read block by block. -/
theorem solveStartTakesSnapshot : Obligations.SolveStartTakesSnapshot := by
  refine fun s => ⟨fun hstale hidle => ?_, fun h => ?_⟩
  · have hstart : execSolveStart s = .next s.startSolve :=
      congrArg Host.Outcome.next (if_pos ((Solver.mayStart_iff _).mpr ⟨hstale, hidle⟩))
    refine ⟨s.startSolve, s.snapshot, ⟨hstart, s.startSolve_onlyChanges⟩, rfl, rfl, rfl, fun k => ⟨?_, ?_⟩, s.mem_snapZones,
      fun i => ⟨fun l e hl he hk hp => ?_, fun h => ?_⟩⟩
    · exact Table.get_mapIdx _ _ k
    · exact Table.get_mapIdx _ _ k
    · obtain ⟨u, hu⟩ := SiteRecord.u_of_launches s.config.growth hp
      have helig : s.launchEligible i = true := by simp [State.launchEligible, hl, hp, hk]
      refine ⟨u, hu, (Table.get_tabulate _ i).trans ?_⟩
      rw [State.snapSite_of_eligible hl helig, hu, SiteRecord.d_of_est he]
      rfl
    · exact (Table.get_tabulate _ i).trans (State.snapSite_of_ineligible h)
  · refine congrArg Host.Outcome.next (if_neg fun hm => ?_)
    obtain ⟨hstale, hidle⟩ := (Solver.mayStart_iff _).mp hm
    exact h.elim (fun h => Bool.false_ne_true (h.symm.trans hstale)) fun h => h hidle

end Sys2Proof.Machine
end

section
/-! Proofs of the families of the alignment solve and of the batches: what the retire-completion test does, SOLVE_COMPLETION and
SETTLE_DEADLINE_EXPIRY. -/

namespace Sys2Proof.Machine

/-! ### The retire-completion test (R35, R36) -/

section
variable {s t u : State} {i : SiteNo}

theorem State.retireTest_get (s : State) (i : SiteNo) :
    s.retireTest.sites.get i = if s.passesRetireTest i then SiteRecord.vacant else s.sites.get i := by
  rw [State.retireTest_sites, Table.get_mapIdx]

theorem planExcludes_iff (latest : Option Plan) (i : SiteNo) :
    planExcludes latest i = true ↔ ∀ p, latest = some p → ∃ r, p.sites.get i = .excluded r := by
  cases latest with
  | none => simp [planExcludes]
  | some p => cases h : p.sites.get i <;> simp [planExcludes, h]

theorem State.passesRetireTest_iff (s : State) (i : SiteNo) :
    s.passesRetireTest i = true ↔
      (s.sites.get i).state = .retiring ∧ (∀ p, s.solver.latest = some p → ∃ r, p.sites.get i = .excluded r)
        ∧ ∀ k, batchNames i (s.slots.get k) = false := by
  rw [← planExcludes_iff]
  simp [State.passesRetireTest, Table.any_eq_false, and_assoc]

/-- The retire-completion test sends no site to a state of its own: a site it changes was RETIRING and becomes VACANT. -/
theorem State.retireTest_get_vacant_iff (h : (s.sites.get i).state = .retiring) :
    (s.retireTest.sites.get i).state = .vacant ↔ s.passesRetireTest i = true := by
  rw [State.retireTest_get]
  split
  next hp => exact ⟨fun _ => hp, fun _ => rfl⟩
  next hp =>
    refine ⟨fun hv => ?_, fun k => absurd k hp⟩
    rw [h] at hv
    cases hv

/-- The test run on a state whose sites and notice order are those before the arrival. -/
theorem State.retireTest_run (hsites : u.sites = s.sites) (hnotices : u.noticeOrder = s.noticeOrder) :
    retireTestRun s u.retireTest := by
  have hpasses (j : SiteNo) : passesAfter s u.retireTest j ↔ u.passesRetireTest j = true := by
    rw [State.passesRetireTest_iff, hsites]
    exact Iff.rfl
  refine ⟨fun j => ⟨fun h => ?_, fun h => ?_⟩, ?_⟩
  · rw [State.retireTest_get, if_pos ((hpasses j).mp h)]
  · rw [State.retireTest_get, if_neg fun k => h ((hpasses j).mpr k), hsites]
  · rw [vacatedLeaveOrder, State.retireTest_noticeOrder, hnotices]
    refine List.filter_congr fun j _ => congrArg (fun b => !b) ?_
    rw [Bool.eq_iff_iff, Bool.and_eq_true, decide_eq_true_iff, decide_eq_true_iff]
    refine ⟨fun h => ?_, fun ⟨hr, hv⟩ => ?_⟩
    · have hr : (u.sites.get j).state = .retiring := ((State.passesRetireTest_iff u j).mp h).1
      exact ⟨hsites ▸ hr, (State.retireTest_get_vacant_iff hr).mpr h⟩
    · exact (State.retireTest_get_vacant_iff (hsites.symm ▸ hr)).mp hv

theorem State.mapSites_conditionsFollow (f : SiteNo → SiteRecord → SiteRecord) (s : State) :
    conditionsFollow [.suspect, .holdover, .drift] s (s.mapSites f) :=
  State.installSites_conditionsFollow _ _ s

theorem State.retireTest_conditionsFollow (s : State) :
    conditionsFollow [.suspect, .holdover, .drift, .notice] s s.retireTest := by
  refine conditionsFollow_trans (l := [.suspect, .holdover, .drift]) (State.mapSites_conditionsFollow _ s)
    (State.setNoticeOrder_conditionsFollow _ _) fun c _ hc => State.setNoticeOrder_holdsCause _ _ fun e => hc ?_
  exact e ▸ List.mem_singleton_self _

/-- The test leaves the sources of the conditions that no site record and no notice makes present. -/
theorem State.retireTest_holdsCause (s : State) {c : Cause} (hc : c ∉ [Cause.suspect, .holdover, .drift, .notice]) :
    s.retireTest.holdsCause c ↔ s.holdsCause c := by
  cases c with
  | suspect | holdover | drift | notice => exact absurd (by decide) hc
  | fault | cal | zone | step | report => exact Iff.rfl

/-- The test marks the plan stale exactly where it vacates a site (R23). -/
theorem State.retireTest_stale (s : State) :
    s.retireTest.solver.stale = true ↔ s.solver.stale = true ∨ ∃ i, s.retireTest.sites.get i ≠ s.sites.get i := by
  have hstale : s.retireTest.solver.stale =
      (s.solver.stale || sitesChangePlan s.config.growth s.config.growth s.sites s.retireTest.sites) := rfl
  rw [hstale, Bool.or_eq_true, sitesChangePlan_iff]
  refine or_congr Iff.rfl (exists_congr fun i => ⟨fun h e => h (by rw [e]), fun h => ?_⟩)
  rcases State.retireTest_vacates s i with e | ⟨hr, hv⟩
  · exact absurd e h
  · intro e
    have hstate : (s.sites.get i).state = (s.retireTest.sites.get i).state := congrArg PlanView.state e
    rw [hr, hv] at hstate
    cases hstate

end

/-! ### SOLVE_COMPLETION -/

theorem nextEpoch_epoch (v : Solver) :
    nextEpoch v.epoch = match v.latest with
      | some q => if q.epoch < 65535 then q.epoch + 1 else 1
      | none => 1 := by
  unfold Solver.epoch nextEpoch
  cases v.latest with
  | none => rfl
  | some q =>
    by_cases h : q.epoch < 65535
    · simp only [if_neg (Nat.not_le.mpr h), if_pos h]
    · simp only [if_pos (Nat.not_lt.mp h), if_neg h]

/-- The publication leaves what the plan says of a site that is not VACANT (R36). -/
theorem Plan.excludeVacant_get_of_serving {t : Table SiteRecord 64} {i : SiteNo} (h : (t.get i).state ≠ .vacant) (p : Plan) :
    (p.excludeVacant t).sites.get i = p.sites.get i := by
  rw [Plan.excludeVacant_sites]
  cases p.sites.get i with
  | excluded r => rfl
  | launch q | muted q => exact if_neg h

theorem execSolveCompletion_of_running {s : State} {v : Solve} (h : s.solver.running = some v) :
    execSolveCompletion s =
      .next (s.completeSolve (Config.startsBeforeVacating s.choices) v.snapshot).countChoice := by
  simp only [execSolveCompletion, h]

/-- The state in which a completion runs the retire-completion test: the plan published, and the next solve started where the
start is taken first (R129). -/
def State.published (first : Bool) (n : Snapshot) (s : State) : State :=
  if s.solver.stale && first then (s.publish n).startSolve else s.publish n

theorem State.completeSolve_eq (first : Bool) (n : Snapshot) (s : State) :
    s.completeSolve first n = (s.published first n).retireTest := by
  rcases State.completeSolve_cases first n s with ⟨h, e⟩ | ⟨h, e⟩ <;> rw [e, State.published, h] <;> rfl

section
variable (first : Bool) (n : Snapshot) (s : State)

theorem State.published_sites : (s.published first n).sites = s.sites := by
  unfold State.published
  split <;> rfl

theorem State.published_noticeOrder : (s.published first n).noticeOrder = s.noticeOrder := by
  unfold State.published
  split <;> rfl

theorem State.published_slots : (s.published first n).slots = s.slots := by
  unfold State.published
  split <;> rfl

theorem State.published_latest :
    (s.published first n).solver.latest = some ((n.plan (nextEpoch s.solver.epoch)).excludeVacant s.sites) := by
  unfold State.published
  split <;> rfl

theorem State.published_running :
    (s.published first n).solver.running =
      if s.solver.stale && first then some { snapshot := s.snapshot, start := s.time.now } else none := by
  unfold State.published
  split <;> rfl

theorem State.published_stale : (s.published first n).solver.stale = (s.solver.stale && !(s.solver.stale && first)) := by
  unfold State.published
  split
  next h => rw [h, State.startSolve_stale, Bool.not_true, Bool.and_false]
  next h => rw [Bool.eq_false_iff.mpr h, State.publish_stale, Bool.not_false, Bool.and_true]

theorem State.published_conditionsFollow : conditionsFollow [.zone] s (s.published first n) := by
  unfold State.published
  split
  · exact conditionsFollow_of_same (State.publish_conditionsFollow n s) rfl fun c _ => by cases c <;> exact Iff.rfl
  · exact State.publish_conditionsFollow n s

end

/-- Settles O32: the publication (R128, R130), the start where it is taken first (R129), and the retire-completion test on the
plan published. -/
theorem solveCompletionPublishes : Obligations.SolveCompletionPublishes := by
  refine fun s => ⟨fun h => ?_, fun v started hv hstarted => ?_⟩
  · exact congrArg Host.Outcome.next (by simp only [h])
  subst hstarted
  have hexec : exec .solveCompletion s = .next (s.completeSolve (Config.startsBeforeVacating s.choices) v.snapshot).countChoice :=
    execSolveCompletion_of_running hv
  generalize Config.startsBeforeVacating s.choices = first at hexec ⊢
  have hlatest := State.published_latest first v.snapshot s
  rw [State.completeSolve_eq] at hexec
  have honly := exec_onlyChanges hexec
  have hsites := State.published_sites first v.snapshot s
  have hrun : retireTestRun s (s.published first v.snapshot).retireTest :=
    State.retireTest_run hsites (State.published_noticeOrder ..)
  refine ⟨_, _, ⟨hexec, honly⟩, ?_, State.published_running .., hlatest, rfl, nextEpoch_epoch _, rfl, rfl, rfl, fun i hi => ?_,
    fun i hi => ?_, fun kept => Snapshot.plan_zoneEntriesOf, ?_, ?_, hrun, fun i hi => ?_⟩
  · rw [State.countChoice_choices, ← State.completeSolve_eq, State.completeSolve_choices]
  · exact Plan.excludeVacant_get_of_serving hi _
  · exact (planExcludes_iff _ i).mp (State.publish_excludes_vacant hi) _ rfl
  · have hstale := State.retireTest_stale (s.published first v.snapshot)
    rw [State.published_stale, Bool.and_eq_true, Bool.not_eq_true', hsites] at hstale
    exact hstale
  · have hfollow := conditionsFollow_trans (State.published_conditionsFollow first v.snapshot s)
      (State.retireTest_conditionsFollow _) fun c _ hc => State.retireTest_holdsCause _ hc
    exact conditionsFollow_of_same hfollow rfl fun c _ => by cases c <;> exact Iff.rfl
  · have hretiring : ((s.published first v.snapshot).sites.get i).state = .retiring := hsites ▸ hi
    have hvacant : ((s.published first v.snapshot).retireTest.sites.get i) = SiteRecord.vacant ↔
        (s.published first v.snapshot).passesRetireTest i = true := by
      rw [← State.retireTest_get_vacant_iff hretiring]
      refine ⟨fun e => by rw [e]; rfl, fun hv => ?_⟩
      rw [State.retireTest_get, if_pos ((State.retireTest_get_vacant_iff hretiring).mp hv)]
    refine hvacant.trans ?_
    rw [State.passesRetireTest_iff, hlatest, State.published_slots]
    simp only [hretiring, true_and, Option.some.injEq, forall_eq']

/-! ### SETTLE_DEADLINE_EXPIRY -/

theorem State.putSlot_slotBecomes (i : SlotNo) (b : Option Batch) (s : State) : slotBecomes i b s (s.putSlot i b) :=
  ⟨Table.get_set_self _ i b, fun _ hj => Table.get_set_ne _ hj b⟩

theorem State.finish_conditionsFollow (i : SlotNo) (b : Batch) (x : Dispatched) (s : State) :
    conditionsFollow [.report, .suspect, .holdover, .drift, .notice] s (s.finish i b x) :=
  conditionsFollow_trans (l := [.report]) (State.installSlots_conditionsFollow _ s) (State.retireTest_conditionsFollow _)
    fun _ _ hc => State.retireTest_holdsCause _ hc

theorem State.finish_retireTestRun (i : SlotNo) (b : Batch) (x : Dispatched) (s : State) : retireTestRun s (s.finish i b x) :=
  State.retireTest_run rfl rfl

theorem State.finish_stale (i : SlotNo) (b : Batch) (x : Dispatched) (s : State) :
    (s.finish i b x).solver.stale = true ↔ s.solver.stale = true ∨ ∃ j, (s.finish i b x).sites.get j ≠ s.sites.get j :=
  State.retireTest_stale _

/-- Settles O38, by what the slot holds: an IN_FLIGHT batch whose deadline is now, or anything else. -/
theorem settleDeadlineCompletesReport : Obligations.SettleDeadlineCompletesReport := by
  refine fun i s => ⟨fun h => congrArg Host.Outcome.next ?_, fun b x hb hx => ?_⟩
  · split
    next b hb =>
      split
      next x settle hx => exact if_neg fun e : settle = s.time.now => h b x hb (e ▸ hx)
      all_goals rfl
    · rfl
  · have hexec : exec (.settleDeadlineExpiry i) s = .next (s.finish i b x) :=
      congrArg Host.Outcome.next (by simp only [hb, hx, if_true])
    exact ⟨_, ⟨hexec, exec_onlyChanges hexec⟩, State.putSlot_slotBecomes i _ s, State.finish_conditionsFollow i b x s, rfl, rfl,
      State.finish_stale i b x s, State.finish_retireTestRun i b x s⟩

end Sys2Proof.Machine
end

section
/-! Proofs of the family of the batches: what a dispatch takes and hands on, the pending order, and the dispatch deadline. -/

namespace Sys2Proof.Machine

/-! ### The hold lists of a dispatch (R156) -/

section
variable {s t : State} {p : Plan} {k : TrunkNo}

/-- The entry of a site in the hold list of a trunk: the plan launches it there. -/
def Plan.launchEntry (p : Plan) (k : TrunkNo) (i : SiteNo) : Option HoldEntry :=
  match p.sites.get i with
  | .launch q => if q.trunk = k then some { site := i, address := q.address, rawHold := q.rawHold, fixed := none } else none
  | .muted _ | .excluded _ => none

theorem Plan.launchEntries_eq (p : Plan) (k : TrunkNo) : p.launchEntries k = (List.finRange 64).filterMap (p.launchEntry k) :=
  rfl

theorem Plan.launchEntry_of_launch {i : SiteNo} {q : PlannedSite} (h : p.sites.get i = .launch q) (k : TrunkNo) :
    p.launchEntry k i =
      if q.trunk = k then some { site := i, address := q.address, rawHold := q.rawHold, fixed := none } else none := by
  rw [Plan.launchEntry, h]

theorem Plan.launchEntry_eq_some {i : SiteNo} {e : HoldEntry} :
    p.launchEntry k i = some e ↔ ∃ q, p.sites.get i = .launch q ∧ q.trunk = k
      ∧ e = { site := i, address := q.address, rawHold := q.rawHold, fixed := none } := by
  unfold Plan.launchEntry
  cases p.sites.get i <;> simp [eq_comm]

theorem Plan.mem_launchEntries {e : HoldEntry} :
    e ∈ p.launchEntries k ↔ ∃ q, p.sites.get e.site = .launch q ∧ q.trunk = k
      ∧ e = { site := e.site, address := q.address, rawHold := q.rawHold, fixed := none } := by
  simp only [Plan.launchEntries_eq, List.mem_filterMap, List.mem_finRange, true_and, Plan.launchEntry_eq_some]
  constructor
  · rintro ⟨i, q, hq, hk, rfl⟩
    exact ⟨q, hq, hk, rfl⟩
  · rintro ⟨q, hq, hk, he⟩
    exact ⟨e.site, q, hq, hk, he⟩

/-- The entries of a hold list come in ascending site number (R156). -/
theorem Plan.launchEntries_pairwise (p : Plan) (k : TrunkNo) :
    (p.launchEntries k).Pairwise fun e f => e.site < f.site := by
  refine List.Pairwise.filterMap _ (fun i j hij e he f hf => ?_) (List.pairwise_lt_finRange 64)
  obtain ⟨_, -, -, rfl⟩ := Plan.launchEntry_eq_some.mp he
  obtain ⟨_, -, -, rfl⟩ := Plan.launchEntry_eq_some.mp hf
  exact hij

theorem State.mem_holdListsFor {l : HoldList} :
    l ∈ s.holdListsFor p ↔ (s.trunks.get l.trunk).enable = true ∧ p.launchEntries l.trunk ≠ []
      ∧ l.entries = p.launchEntries l.trunk := by
  simp only [State.holdListsFor, List.mem_filterMap, List.mem_finRange, true_and, Option.ite_none_right_eq_some,
    Option.some.injEq, Bool.and_eq_true, Bool.not_eq_true', List.isEmpty_eq_false_iff]
  constructor
  · rintro ⟨k, ⟨hk, hne⟩, rfl⟩
    exact ⟨hk, hne, rfl⟩
  · rintro ⟨hk, hne, he⟩
    exact ⟨l.trunk, ⟨hk, hne⟩, by rw [← he]⟩

/-- The hold lists of a dispatch hold for each enabled trunk its entries in the plan, and nothing for another (R156). -/
theorem Dispatched.entriesOf_of_lists {x : Dispatched} (hx : x.holdLists = s.holdListsFor p) (k : TrunkNo) :
    x.entriesOf k = if (s.trunks.get k).enable then p.launchEntries k else [] := by
  unfold Dispatched.entriesOf
  split
  next l hl =>
    have hmem := List.mem_of_find?_eq_some hl
    have hk : l.trunk = k := by simpa using List.find?_some hl
    rw [hx, State.mem_holdListsFor, hk] at hmem
    rw [if_pos hmem.1, hmem.2.2]
  next hnone =>
    split
    next hk =>
      by_contra hne
      have hmem : ({ trunk := k, entries := p.launchEntries k } : HoldList) ∈ x.holdLists := by
        rw [hx, State.mem_holdListsFor]
        exact ⟨hk, fun e => hne e.symm, rfl⟩
      exact absurd (List.find?_eq_none.mp hnone _ hmem) (by simp)
    · rfl

theorem State.map_trunk_holdListsFor (s : State) (p : Plan) :
    (s.holdListsFor p).map HoldList.trunk =
      (List.finRange 8).filter fun k => (s.trunks.get k).enable && !(p.launchEntries k).isEmpty := by
  rw [State.holdListsFor, List.map_filterMap, ← List.filterMap_eq_filter]
  refine List.filterMap_congr fun k _ => ?_
  simp only [Option.guard]
  split <;> rfl

/-- The sites counted as dropped at a dispatch are the LAUNCH sites on trunks that are not enabled (R156): each counts for the
one trunk the plan gives it. -/
theorem State.droppedAtDispatch_eq (s : State) (p : Plan) :
    s.droppedAtDispatch p = ((List.finRange 64).filter fun j => match p.sites.get j with
      | .launch q => !(s.trunks.get q.trunk).enable
      | .muted _ | .excluded _ => false).length := by
  have hsum : s.droppedAtDispatch p =
      ∑ k : TrunkNo, if (s.trunks.get k).enable then 0 else (p.launchEntries k).length := Fin.sum_univ_def _ |>.symm
  rw [hsum]
  simp only [Plan.launchEntries_eq]
  induction List.finRange 64 with
  | nil => simp
  | cons i rest ih =>
    cases h : p.sites.get i with
    | muted q | excluded r =>
      have hnone (k : TrunkNo) : p.launchEntry k i = none := by rw [Plan.launchEntry, h]
      simpa [List.filterMap_cons, List.filter_cons, h, hnone] using ih
    | launch q =>
      have hterm (k : TrunkNo) :
          (if (s.trunks.get k).enable then 0 else ((i :: rest).filterMap (p.launchEntry k)).length) =
            (if (s.trunks.get k).enable then 0 else (rest.filterMap (p.launchEntry k)).length)
              + if q.trunk = k then (if (s.trunks.get q.trunk).enable then 0 else 1) else 0 := by
        rw [List.filterMap_cons, Plan.launchEntry_of_launch h]
        by_cases hk : q.trunk = k
        · subst hk
          cases (s.trunks.get q.trunk).enable <;> simp
        · simp [hk]
      simp only [hterm, Finset.sum_add_distrib, ih, Finset.sum_ite_eq, Finset.mem_univ, if_true, List.filter_cons, h]
      cases (s.trunks.get q.trunk).enable <;> simp

end

/-! ### What a dispatch takes (R155, R156) -/

/-- What the dispatch of a batch, slipped or not, takes in a state. -/
def State.taken (slipped : Bool) (s : State) : Dispatched :=
  match s.solver.latest with
  | none => { epoch := 0, planHorizon := 0, holdLists := [], report := freshReport .noPlan 0 }
  | some p =>
    { epoch := p.epoch, planHorizon := p.horizon, holdLists := s.holdListsFor p
      report :=
        freshReport (if s.holdListsFor p = [] then .noSites else if slipped then .slipped else .launched)
          (s.droppedAtDispatch p) }

section
variable {s t : State} {slipped : Bool} {i : SlotNo} {b : Batch}

theorem State.taken_of_no_plan (h : s.solver.latest = none) :
    s.taken slipped = { epoch := 0, planHorizon := 0, holdLists := [], report := freshReport .noPlan 0 } := by
  rw [State.taken, h]

theorem State.taken_of_plan {p : Plan} (h : s.solver.latest = some p) :
    s.taken slipped =
      { epoch := p.epoch, planHorizon := p.horizon, holdLists := s.holdListsFor p
        report :=
          freshReport (if s.holdListsFor p = [] then .noSites else if slipped then .slipped else .launched)
            (s.droppedAtDispatch p) } := by
  rw [State.taken, h]

/-- A dispatch reads the latest plan and which trunks are enabled. -/
theorem State.taken_congr (hlatest : t.solver.latest = s.solver.latest) (henable : ∀ k, (t.trunks.get k).enable = (s.trunks.get k).enable) :
    t.taken slipped = s.taken slipped := by
  have hlists (p : Plan) : t.holdListsFor p = s.holdListsFor p := by simp only [State.holdListsFor, henable]
  have hdropped (p : Plan) : t.droppedAtDispatch p = s.droppedAtDispatch p := by simp only [State.droppedAtDispatch, henable]
  simp only [State.taken, hlatest, hlists, hdropped]

theorem State.taken_takenAtDispatch (slipped : Bool) (s : State) : takenAtDispatch slipped s (s.taken slipped) := by
  cases h : s.solver.latest with
  | none =>
    rw [State.taken_of_no_plan h]
    exact ⟨by rw [Solver.epoch, h], rfl, rfl, rfl, fun _ => ⟨rfl, rfl, rfl⟩, fun p hp => by simp [h] at hp⟩
  | some p =>
    have hx := State.taken_of_plan (slipped := slipped) h
    have hlists : (s.taken slipped).holdLists = s.holdListsFor p := by rw [hx]
    have hentries := Dispatched.entriesOf_of_lists hlists
    refine ⟨by rw [hx, Solver.epoch, h], by rw [hx]; rfl, by rw [hx]; rfl, by rw [hx]; rfl, fun hn => by simp [h] at hn, ?_⟩
    rintro q hq
    obtain rfl : p = q := Option.some.inj (h.symm.trans hq)
    refine ⟨by rw [hx], ?_, fun k e => ?_, fun k => ?_, by rw [hx]; exact State.droppedAtDispatch_eq s p, by rw [hx]; rfl⟩
    · rw [hlists, State.map_trunk_holdListsFor]
      refine List.filter_congr fun k _ => ?_
      rw [hentries]
      cases (s.trunks.get k).enable <;> cases hl : p.launchEntries k <;> simp
    · rw [hentries]
      cases hk : (s.trunks.get k).enable with
      | false => simp
      | true => simpa using Plan.mem_launchEntries
    · rw [hentries]
      split
      · exact Plan.launchEntries_pairwise p k
      · exact .nil

/-- A trunk has a hold list exactly where it has entries: no hold list is empty. -/
theorem State.taken_lists_any (slipped : Bool) (s : State) (k : TrunkNo) :
    ((s.taken slipped).holdLists.any fun l => decide (l.trunk = k)) = !((s.taken slipped).entriesOf k).isEmpty := by
  cases h : s.solver.latest with
  | none =>
    rw [State.taken_of_no_plan h]
    rfl
  | some p =>
    have hlists : (s.taken slipped).holdLists = s.holdListsFor p := by rw [State.taken_of_plan h]
    rw [Dispatched.entriesOf_of_lists hlists k, hlists, Bool.eq_iff_iff]
    simp only [List.any_eq_true, decide_eq_true_eq, State.mem_holdListsFor, Bool.not_eq_true', List.isEmpty_eq_false_iff]
    constructor
    · rintro ⟨l, ⟨hk, hne, -⟩, rfl⟩
      rwa [if_pos hk]
    · intro hne
      have hk : (s.trunks.get k).enable = true := by
        by_contra hk
        exact hne (if_neg hk)
      rw [if_pos hk] at hne
      exact ⟨{ trunk := k, entries := p.launchEntries k }, ⟨hk, hne, rfl⟩, rfl⟩

theorem State.queueFrames_framesQueued (i : SlotNo) (slipped : Bool) (s u : State) (hu : u.trunks = s.trunks) :
    framesQueued [i] (s.taken slipped) s (u.queueFrames i (s.taken slipped).holdLists) := by
  intro k
  have hget : (u.queueFrames i (s.taken slipped).holdLists).trunks.get k =
      if ((s.taken slipped).holdLists.any fun l => decide (l.trunk = k)) then
        { s.trunks.get k with batchQueue := (s.trunks.get k).batchQueue ++ [i] }
      else s.trunks.get k := (Table.get_mapIdx _ _ k).trans (by rw [hu])
  rw [hget, State.taken_lists_any]
  cases h : (s.taken slipped).entriesOf k <;> simp

/-- Every dispatch puts into its slot what it takes, and hands on the frames (R155, R156). -/
theorem State.dispatch_eq (hb : s.slots.get i = some b) :
    s.dispatch i =
      (s.putSlot i (some { b with phase := phaseAfterDispatch (s.taken b.slipped) })).queueFrames i
        (s.taken b.slipped).holdLists := by
  have hnone (u : State) : u.queueFrames i [] = u := by
    have htrunks : (u.queueFrames i []).trunks = u.trunks := Table.ext_get fun k => Table.get_mapIdx _ _ k
    exact congrArg (fun x => { u with trunks := x }) htrunks
  unfold State.dispatch
  cases h : s.solver.latest with
  | none => simp [hb, State.taken_of_no_plan h, phaseAfterDispatch, hnone]
  | some p =>
    rw [State.taken_of_plan h]
    by_cases hl : s.holdListsFor p = []
    · simp [hb, hl, phaseAfterDispatch, hnone]
    · simp [hb, hl, phaseAfterDispatch, Batch.launchResult]

theorem State.dispatch_slotBecomes (hb : s.slots.get i = some b) :
    slotBecomes i (some { b with phase := phaseAfterDispatch (s.taken b.slipped) }) s (s.dispatch i) := by
  rw [State.dispatch_eq hb]
  exact State.putSlot_slotBecomes i _ s

theorem State.dispatch_framesQueued (hb : s.slots.get i = some b) :
    framesQueued [i] (s.taken b.slipped) s (s.dispatch i) := by
  rw [State.dispatch_eq hb]
  exact State.queueFrames_framesQueued i b.slipped s _ rfl

theorem State.dispatch_conditionsFollow (hb : s.slots.get i = some b) : conditionsFollow [.report] s (s.dispatch i) := by
  rw [State.dispatch_eq hb]
  exact conditionsFollow_of_same (State.installSlots_conditionsFollow _ s) rfl fun c _ => by cases c <;> exact Iff.rfl

theorem framesQueued_enable {order : List SlotNo} {x : Dispatched} (h : framesQueued order x s t) (k : TrunkNo) :
    (t.trunks.get k).enable = (s.trunks.get k).enable := by
  rw [h k]
  split <;> rfl

end

/-! ### The pending order (R148) -/

section
variable {s : State} {i j : SlotNo}

theorem comesFirst_iff (now : Instant) (x y : Batch) :
    comesFirst now x y = true ↔
      lead now x.dispatch < lead now y.dispatch ∨ (lead now x.dispatch = lead now y.dispatch ∧ x.posting ≤ y.posting) := by
  simp [comesFirst]

theorem State.slotComesFirst_total (s : State) (i j : SlotNo) :
    s.slotComesFirst i j = true ∨ s.slotComesFirst j i = true := by
  unfold State.slotComesFirst
  cases s.slots.get i with
  | none => simp
  | some x =>
    cases s.slots.get j with
    | none => simp
    | some y =>
      simp only [comesFirst_iff]
      omega

theorem State.slotComesFirst_trans {s : State} {i j k : SlotNo} (h : s.slotComesFirst i j = true)
    (h' : s.slotComesFirst j k = true) : s.slotComesFirst i k = true := by
  unfold State.slotComesFirst at *
  cases hi : s.slots.get i with
  | none => rfl
  | some x =>
    cases hj : s.slots.get j with
    | none => simp [hi, hj] at h
    | some y =>
      cases hk : s.slots.get k with
      | none => simp [hj, hk] at h'
      | some z =>
        simp only [hi, hj, hk, comesFirst_iff] at h h' ⊢
        omega

theorem State.mem_pendingOrder (s : State) (i : SlotNo) : i ∈ s.pendingOrder ↔ isPending (s.slots.get i) = true := by
  simp [State.pendingOrder]

theorem State.pendingOrder_nodup (s : State) : s.pendingOrder.Nodup :=
  (List.perm_insertionSort _ _).nodup_iff.mpr ((List.nodup_finRange 8).filter _)

theorem State.pendingOrder_pairwise (s : State) : s.pendingOrder.Pairwise fun i j => s.slotComesFirst i j = true :=
  haveI : Std.Total fun i j : SlotNo => s.slotComesFirst i j = true := ⟨s.slotComesFirst_total⟩
  haveI : IsTrans SlotNo fun i j => s.slotComesFirst i j = true := ⟨fun _ _ _ => State.slotComesFirst_trans⟩
  List.pairwise_insertionSort _ _

theorem isPending_iff (o : Option Batch) : isPending o = true ↔ ∃ b, o = some b ∧ b.phase = .pending := by
  cases o <;> simp [isPending]

theorem lead_eq_zero_iff (now x : Instant) : lead now x = 0 ↔ x = now := by
  rw [lead, ← BitVec.toNat_zero (w := 32), BitVec.toNat_inj, BitVec.sub_eq_iff_eq_add, BitVec.zero_add]

/-- Whatever the pending order puts before a batch that is due now is due now too, and not posted later (R148). -/
theorem due_of_comesFirst {now : Instant} {x y : Batch} (h : comesFirst now x y = true) (hy : y.dispatch = now) :
    x.dispatch = now ∧ x.posting ≤ y.posting := by
  rw [comesFirst_iff, (lead_eq_zero_iff now y.dispatch).mpr hy] at h
  obtain ⟨hlead, hpost⟩ := h.resolve_left (Nat.not_lt_zero _)
  exact ⟨(lead_eq_zero_iff now x.dispatch).mp hlead, hpost⟩

theorem State.slotComesFirst_some {x y : Batch} (hi : s.slots.get i = some x) (hj : s.slots.get j = some y) :
    s.slotComesFirst i j = comesFirst s.time.now x y := by
  simp only [State.slotComesFirst, hi, hj]

end

/-! ### DISPATCH_DEADLINE_EXPIRY -/

/-- Settles O37: the head of the pending order is the batch due now that was posted first, and its dispatch is the row's. -/
theorem dispatchDeadlineHandsOnFrames : Obligations.DispatchDeadlineHandsOnFrames := by
  refine fun s => ⟨fun h => congrArg Host.Outcome.next ?_, fun i b hb hpending hdue hfirst => ?_⟩
  · split
    · rfl
    next i rest horder =>
      have hi : isPending (s.slots.get i) = true := (s.mem_pendingOrder i).mp (horder ▸ List.mem_cons_self)
      obtain ⟨b, hb, hpending⟩ := (isPending_iff _).mp hi
      simp only [hb, if_neg (h i b hb hpending)]
  · have hi : i ∈ s.pendingOrder := (s.mem_pendingOrder i).mpr ((isPending_iff _).mpr ⟨b, hb, hpending⟩)
    have hhead : ∃ rest, s.pendingOrder = i :: rest := by
      cases horder : s.pendingOrder with
      | nil =>
        rw [horder] at hi
        cases hi
      | cons j rest =>
        by_cases hj : j = i
        · exact ⟨rest, hj ▸ rfl⟩
        exfalso
        obtain ⟨c, hc, hcp⟩ := (isPending_iff _).mp ((s.mem_pendingOrder j).mp (horder ▸ List.mem_cons_self))
        have hbefore := (List.pairwise_cons.mp (horder ▸ s.pendingOrder_pairwise)).1 i
          ((List.mem_cons.mp (horder ▸ hi)).resolve_left (Ne.symm hj))
        rw [State.slotComesFirst_some hc hb] at hbefore
        obtain ⟨hcdue, hle⟩ := due_of_comesFirst hbefore hdue
        exact absurd (hfirst j c hj hc hcp hcdue) (Nat.not_lt.mpr hle)
    obtain ⟨rest, horder⟩ := hhead
    have hexec : exec .dispatchDeadlineExpiry s = .next (s.dispatch i) :=
      congrArg Host.Outcome.next (by simp only [horder, hb, hdue, if_true])
    exact ⟨_, s.taken b.slipped, ⟨hexec, exec_onlyChanges hexec⟩, State.dispatch_conditionsFollow hb,
      s.taken_takenAtDispatch b.slipped, State.dispatch_slotBecomes hb, State.dispatch_framesQueued hb⟩

/-! ### The holds that a frame carries (R158) -/

/-- Settles O39: the quantized hold below zero and from zero on. -/
theorem sentHoldsAreNearestMultiples : Obligations.SentHoldsAreNearestMultiples := by
  rintro g v f rfl
  have hpos := g.du_pos
  have hdu : g.du ≤ 100 := by cases g <;> decide
  have hhold : (fixedHold g v).hold = quantize g v := rfl
  have hlate : (fixedHold g v).lateness = (-v).toNat := rfl
  rw [hhold, hlate]
  rcases lt_or_ge v 0 with hneg | hnonneg
  · rw [quantize_of_neg hneg]
    exact ⟨Nat.dvd_zero _, fun _ => ⟨rfl, by omega⟩, fun h => by omega, fun _ => by omega⟩
  · obtain ⟨hlow, hhigh⟩ := quantize_between (g := g) hnonneg
    refine ⟨quantize_of_nonneg hnonneg ▸ Nat.dvd_mul_right _ _, fun h => by omega, fun _ => ⟨by omega, by omega, by omega⟩,
      fun _ => by omega⟩

end Sys2Proof.Machine
end

section
/-! Proofs of the family of the batches, continued: BATCH.POST, BATCH.WITHDRAW, BATCH.REPORT and CONFIG.SET of H. -/

namespace Sys2Proof.Machine

/-! ### BATCH.POST -/

section
variable {s : State} {tag : Byte} {requested : Instant} {payload : List Byte} {i : SlotNo}

theorem State.freeSlot?_of_full (h : ∀ i, s.slots.get i ≠ none) : s.freeSlot? = none := by
  simpa [State.freeSlot?] using h

theorem State.freeSlot?_of_free (h : ∃ i, s.slots.get i = none) : ∃ i, s.freeSlot? = some i := by
  obtain ⟨i, hi⟩ := h
  refine Option.isSome_iff_exists.mp (List.find?_isSome.mpr ⟨i, List.mem_finRange i, ?_⟩)
  rw [hi]
  rfl

theorem State.slotOfTag?_some {i : SlotNo} (h : s.slotOfTag? tag = some i) : ∃ b, s.slots.get i = some b ∧ b.tag = tag := by
  have hi := List.find?_some h
  cases hb : s.slots.get i with
  | none => simp [hb] at hi
  | some b => exact ⟨b, rfl, by simpa [hb] using hi⟩

theorem State.slotOfTag?_eq_none (h : ∀ i b, s.slots.get i = some b → b.tag ≠ tag) : s.slotOfTag? tag = none := by
  cases hi : s.slotOfTag? tag with
  | none => rfl
  | some i =>
    obtain ⟨b, hb, ht⟩ := State.slotOfTag?_some hi
    exact absurd ht (h i b hb)

theorem State.slotOfTag?_isSome {b : Batch} (hb : s.slots.get i = some b) (ht : b.tag = tag) :
    (s.slotOfTag? tag).isSome = true := by
  rw [Option.isSome_iff_ne_none]
  exact fun h => State.slotOfTag?_none h i b hb ht

theorem batchPostBlock_of_full (h : s.freeSlot? = none) : batchPostBlock tag requested payload s = refuse .queueFull s := by
  simp only [batchPostBlock, h]

theorem batchPostBlock_of_tag (hi : s.freeSlot? = some i) (ht : (s.slotOfTag? tag).isSome = true) :
    batchPostBlock tag requested payload s = refuse .tagInUse s := by
  simp only [batchPostBlock, hi, if_pos ht]

/-- BATCH.POST with a FREE slot and a fresh tag (R149, tests 3 and 4; R150). -/
theorem batchPostBlock_of_fresh (hi : s.freeSlot? = some i) (ht : s.slotOfTag? tag = none) :
    batchPostBlock tag requested payload s =
      if payload.length = 0 ∨ 192 < payload.length then refuse .badLength s
      else if tooFar s.time.now requested then refuse .tooFar s
      else if s.slots.any (spacesOut s.config.spacing (s.postedBatch tag requested payload).actual) then refuse .spacing s
      else ((s.postedBatch tag requested payload).postAnswer, s.acceptPost i (s.postedBatch tag requested payload)) := by
  have htag : ¬(s.slotOfTag? tag).isSome = true := by simp [ht]
  simp only [batchPostBlock, hi, if_neg htag]

theorem tooFar_iff (now requested : Instant) :
    tooFar now requested = true ↔ 1073741824 ≤ lead now requested ∧ lead now requested ≤ 2147483647 := decide_eq_true_iff

/-- A slot refuses a post for its spacing when its batch is not DONE and launches within W (R150). -/
theorem spacesOut_iff (spacing : Nat) (actual : Instant) (o : Option Batch) :
    spacesOut spacing actual o = true ↔ ∃ b, o = some b ∧ isDone (some b) = false
      ∧ min (actual - b.actual).toNat (b.actual - actual).toNat < spacing := by
  cases o with
  | none => simp [spacesOut, isActive]
  | some b => cases h : b.phase <;> simp [spacesOut, isActive, isDone, within, h]

/-- An accepted post fills its slot, and a batch whose dispatch instant is now is dispatched at once (R150). -/
theorem State.acceptPost_eq (i : SlotNo) (b : Batch) (s : State) :
    s.acceptPost i b =
      if b.dispatch = s.time.now then (s.putSlot i (some b)).dispatch i else s.putSlot i (some b) := rfl

/-- Conditions handed on twice follow their sources as they are at last. -/
theorem conditionsFollow_trans_self {l : List Cause} {s t u : State} (h : conditionsFollow l s t) (k : conditionsFollow l t u) :
    conditionsFollow l s u := by
  obtain ⟨hmask, hcal, hcauses⟩ := conditionsFollow_trans h k fun c hc hn => absurd hc hn
  refine ⟨hmask, hcal, fun c => ?_⟩
  have hc := hcauses c
  simpa only [List.mem_append, or_self] using hc

/-- What an accepted post leaves: its batch in the slot, dispatched where that is due (R150, R155, R156). -/
theorem State.acceptPost_leaves (i : SlotNo) (b : Batch) (hb : b.phase = .pending) :
    slotBecomes i (some
        { b with phase := if b.dispatch = s.time.now then phaseAfterDispatch (s.taken b.slipped) else .pending }) s
        (s.acceptPost i b)
      ∧ conditionsFollow [.report] s (s.acceptPost i b)
      ∧ (b.dispatch ≠ s.time.now → (s.acceptPost i b).trunks = s.trunks)
      ∧ (b.dispatch = s.time.now → framesQueued [i] (s.taken b.slipped) s (s.acceptPost i b)) := by
  obtain ⟨hput, hputOthers⟩ := State.putSlot_slotBecomes i (some b) s
  have hfollow : conditionsFollow [.report] s (s.putSlot i (some b)) := State.installSlots_conditionsFollow _ s
  by_cases hdue : b.dispatch = s.time.now
  · have htaken : (s.putSlot i (some b)).taken b.slipped = s.taken b.slipped := State.taken_congr rfl fun _ => rfl
    obtain ⟨hslot, hothers⟩ := State.dispatch_slotBecomes hput
    have hframes := State.dispatch_framesQueued hput
    rw [htaken] at hslot hframes
    rw [State.acceptPost_eq, if_pos hdue, if_pos hdue]
    exact ⟨⟨hslot, fun j hj => (hothers j hj).trans (hputOthers j hj)⟩,
      conditionsFollow_trans_self hfollow (State.dispatch_conditionsFollow hput), fun h => absurd hdue h, fun _ => hframes⟩
  · rw [State.acceptPost_eq, if_neg hdue, if_neg hdue, ← hb]
    exact ⟨⟨hput, hputOthers⟩, hfollow, fun _ => rfl, fun h => absurd h hdue⟩

end

/-- Settles O35, by the tests of R149 in their order, the spacing of R150, and the acceptance. -/
theorem batchPostAcceptsOrRefuses : Obligations.BatchPostAcceptsOrRefuses := by
  intro tag requested payload s hs
  refine ⟨fun h => declined_of_refuse (k := .readyOnly) rfl hs (batchPostBlock_of_full (State.freeSlot?_of_full h)), fun hfree => ?_⟩
  obtain ⟨i, hi⟩ := State.freeSlot?_of_free hfree
  refine ⟨fun ⟨j, b, hb, ht⟩ => ?_, fun hfresh => ?_⟩
  · exact declined_of_refuse (k := .readyOnly) rfl hs (batchPostBlock_of_tag hi (State.slotOfTag?_isSome hb ht))
  have hblock := batchPostBlock_of_fresh (requested := requested) (payload := payload) hi (State.slotOfTag?_eq_none hfresh)
  refine ⟨fun hlen => ?_, ?_⟩
  · rw [if_pos (by omega)] at hblock
    exact declined_of_refuse (k := .readyOnly) rfl hs hblock
  rintro hlen hlen' x hx
  have hlead : lead s.time.now requested = x := hx.symm
  rw [if_neg (by omega)] at hblock
  refine ⟨fun hlow hhigh => ?_, fun hnear slipped actual hslipped hactual => ?_⟩
  · rw [if_pos ((tooFar_iff _ _).mpr (by omega))] at hblock
    exact declined_of_refuse (k := .readyOnly) rfl hs hblock
  have hfar : ¬tooFar s.time.now requested = true := by
    rw [tooFar_iff]
    omega
  rw [if_neg hfar] at hblock
  have hslips : slipsAtPost s.time.now s.config.horizon requested = slipped := by
    rw [Bool.eq_iff_iff, hslipped, slipsAtPost, decide_eq_true_iff, hlead]
  have hposted : s.postedBatch tag requested payload =
      { tag := tag, posting := s.slots.count Option.isSome, payload := payload, requested := requested, actual := actual
        dispatch := actual - BitVec.ofNat 32 s.config.horizon, slipped := slipped, phase := .pending } := by
    rw [State.postedBatch, actualLaunch, hslips, hactual]
    rfl
  rw [hposted] at hblock
  refine ⟨fun ⟨j, b, hb, hdone, hmin⟩ => ?_, fun hspaced => ?_⟩
  · rw [if_pos ((Table.any_iff _ _).mpr ⟨j, (spacesOut_iff _ _ _).mpr ⟨b, hb, hdone, hmin⟩⟩)] at hblock
    exact declined_of_refuse (k := .readyOnly) rfl hs hblock
  · have hclear : ¬s.slots.any (spacesOut s.config.spacing actual) = true := by
      rw [Table.any_iff]
      rintro ⟨j, hj⟩
      obtain ⟨b, hb, hdone, hmin⟩ := (spacesOut_iff _ _ _).mp hj
      exact absurd (hspaced j b hb hdone) (Nat.not_le.mpr hmin)
    rw [if_neg hclear] at hblock
    have hslot := State.freeSlot?_some hi
    obtain ⟨hbecomes, hfollow, htrunks, hframes⟩ := State.acceptPost_leaves (s := s) i
      { tag := tag, posting := s.slots.count Option.isSome, payload := payload, requested := requested, actual := actual
        dispatch := actual - BitVec.ofNat 32 s.config.horizon, slipped := slipped, phase := .pending } rfl
    have honly := State.acceptPost_onlyChanges i
      { tag := tag, posting := s.slots.count Option.isSome, payload := payload, requested := requested, actual := actual
        dispatch := actual - BitVec.ofNat 32 s.config.horizon, slipped := slipped, phase := .pending } s
    have hsame := honly.2
    exact ⟨_, i, s.taken slipped,
      answers_of_block (k := .readyOnly) rfl hs hblock honly (hsame .port (by decide))
        (congrArg TimeBase.now (hsame .time (by decide))),
      hslot, hbecomes, conditionsFollow_respond _ hfollow, htrunks,
      fun hdue => ⟨s.taken_takenAtDispatch slipped, hframes hdue⟩⟩

/-! ### The freeing of a slot (R148) -/

section
variable {s : State} {i : SlotNo} {b : Batch}

theorem State.freeSlot_eq (hb : s.slots.get i = some b) :
    s.freeSlot i = s.installSlots (s.slots.mapIdx fun j o =>
      if j = i then none
      else o.map fun c => if b.posting < c.posting then { c with posting := c.posting - 1 } else c) := by
  simp only [State.freeSlot, hb]

theorem State.freeSlot_slotFreed (hb : s.slots.get i = some b) : slotFreed i b s (s.freeSlot i) := by
  rw [State.freeSlot_eq hb]
  exact ⟨(Table.get_mapIdx _ _ i).trans (if_pos rfl), fun j hj => (Table.get_mapIdx _ _ j).trans (if_neg hj)⟩

theorem State.freeSlot_conditionsFollow (hb : s.slots.get i = some b) : conditionsFollow [.report] s (s.freeSlot i) := by
  rw [State.freeSlot_eq hb]
  exact State.installSlots_conditionsFollow _ s

/-- In READY a command whose block answers and frees a slot (R148). -/
theorem answers_of_freed {c : Instr} {k : CommandClass} {block : State → Answer × State} {a : Answer}
    (hc : exec c s = .next (s.command k block)) (hs : s.ready) (hb : s.slots.get i = some b)
    (hblock : block s = (a, s.freeSlot i)) :
    ∃ t, answers c a [.slots, .attention] s t ∧ slotFreed i b s t ∧ conditionsFollow [.report] s t := by
  have honly := State.freeSlot_onlyChanges i s
  have hsame := honly.2
  exact ⟨_, answers_of_block hc hs hblock honly (hsame .port (by decide)) (congrArg TimeBase.now (hsame .time (by decide))),
    State.freeSlot_slotFreed hb, conditionsFollow_respond _ (State.freeSlot_conditionsFollow hb)⟩

end

/-! ### The choice of BATCH.REPORT (R164) -/

section
variable {s : State}

theorem isDone_iff (o : Option Batch) : isDone o = true ↔ ∃ b x, o = some b ∧ b.phase = .done x := by
  cases o with
  | none => simp [isDone]
  | some b => cases h : b.phase <;> simp [isDone, h]

theorem reportsBefore_iff (now : Instant) (x y : Batch) :
    reportsBefore now x y = true ↔ interval y.actual now < interval x.actual now
      ∨ (interval y.actual now = interval x.actual now ∧ x.posting ≤ y.posting) := by
  rw [reportsBefore, Bool.or_eq_true, decide_eq_true_iff, Bool.and_eq_true, decide_eq_true_iff, decide_eq_true_iff,
    eq_comm (a := interval x.actual now)]

/-- A choice among these slots: none while none of them is DONE, and otherwise a DONE slot that BATCH.REPORT prefers to every
DONE slot among them. -/
def State.prefers (s : State) (l : List SlotNo) : Option SlotNo → Prop
  | none => ∀ j ∈ l, isDone (s.slots.get j) = false
  | some i => ∃ b x, s.slots.get i = some b ∧ b.phase = .done x
      ∧ ∀ j ∈ l, ∀ c, s.slots.get j = some c → isDone (some c) = true → reportsBefore s.time.now b c = true

theorem reportsBefore_refl (now : Instant) (x : Batch) : reportsBefore now x x = true :=
  (reportsBefore_iff now x x).mpr (.inr ⟨rfl, le_rfl⟩)

theorem reportsBefore_trans {now : Instant} {x y z : Batch} (h : reportsBefore now x y = true)
    (h' : reportsBefore now y z = true) : reportsBefore now x z = true := by
  rw [reportsBefore_iff] at *
  omega

theorem reportsBefore_of_not {now : Instant} {x y : Batch} (h : ¬reportsBefore now x y = true) :
    reportsBefore now y x = true := by
  rw [reportsBefore_iff] at *
  omega

theorem State.prefers_betterReport {l : List SlotNo} {best : Option SlotNo} (h : s.prefers l best) (i : SlotNo) :
    s.prefers (l ++ [i]) (s.betterReport best i) := by
  unfold State.betterReport
  split
  next hdone =>
    obtain ⟨y, xy, hy, hyp⟩ := (isDone_iff _).mp hdone
    cases best with
    | none =>
      refine ⟨y, xy, hy, hyp, fun j hj c hc hcd => ?_⟩
      rcases List.mem_append.mp hj with hj | hj
      · rw [← hc, h j hj] at hcd
        cases hcd
      · rw [List.mem_singleton.mp hj, hy] at hc
        cases hc
        exact reportsBefore_refl _ _
    | some k =>
      obtain ⟨b, xb, hb, hbp, hall⟩ := h
      simp only [hb, hy]
      split
      next hbefore =>
        refine ⟨b, xb, hb, hbp, fun j hj c hc hcd => ?_⟩
        rcases List.mem_append.mp hj with hj | hj
        · exact hall j hj c hc hcd
        · rw [List.mem_singleton.mp hj, hy] at hc
          cases hc
          exact hbefore
      next hbefore =>
        refine ⟨y, xy, hy, hyp, fun j hj c hc hcd => ?_⟩
        rcases List.mem_append.mp hj with hj | hj
        · exact reportsBefore_trans (reportsBefore_of_not hbefore) (hall j hj c hc hcd)
        · rw [List.mem_singleton.mp hj, hy] at hc
          cases hc
          exact reportsBefore_refl _ _
  next hdone =>
    have hnot : isDone (s.slots.get i) = false := by simpa using hdone
    cases best with
    | none =>
      intro j hj
      rcases List.mem_append.mp hj with hj | hj
      · exact h j hj
      · rwa [List.mem_singleton.mp hj]
    | some k =>
      obtain ⟨b, xb, hb, hbp, hall⟩ := h
      refine ⟨b, xb, hb, hbp, fun j hj c hc hcd => ?_⟩
      rcases List.mem_append.mp hj with hj | hj
      · exact hall j hj c hc hcd
      · rw [← hc, List.mem_singleton.mp hj, hnot] at hcd
        cases hcd

theorem State.prefers_foldl (m : List SlotNo) {l : List SlotNo} {best : Option SlotNo} (h : s.prefers l best) :
    s.prefers (l ++ m) (m.foldl s.betterReport best) := by
  induction m generalizing l best with
  | nil => rwa [List.append_nil]
  | cons i rest ih => simpa using ih (State.prefers_betterReport h i)

theorem State.reportSlot?_prefers (s : State) : s.prefers (List.finRange 8) s.reportSlot? :=
  State.prefers_foldl (List.finRange 8) (l := []) (best := none) fun _ hj => absurd hj List.not_mem_nil

end

/-- Settles O36: the slot of the tag (R154), and the DONE slot that R164 chooses, each freed as R148 says. -/
theorem withdrawAndReportFreeSlots : Obligations.WithdrawAndReportFreeSlots := by
  refine ⟨rfl, fun s hs => ⟨fun tag => ⟨fun h => ?_, fun i b hb ht hunique => ?_⟩, fun h => ?_, fun ⟨k, hk⟩ => ?_⟩⟩
  · refine declined_of_refuse (k := .readyOnly) (block := batchWithdrawBlock tag) rfl hs ?_
    simp only [batchWithdrawBlock, State.slotOfTag?_eq_none h]
  · have hslot : s.slotOfTag? tag = some i := by
      obtain ⟨j, hj⟩ := Option.isSome_iff_exists.mp (State.slotOfTag?_isSome hb ht)
      obtain ⟨c, hc, hct⟩ := State.slotOfTag?_some hj
      rw [hj, hunique j c hc hct]
    have hblock : batchWithdrawBlock tag s = if isPending (s.slots.get i) then accept (s.freeSlot i) else refuse .tooLate s := by
      simp only [batchWithdrawBlock, hslot]
    refine ⟨fun hp => ?_, fun hp => ?_⟩
    · rw [if_neg (by simpa [isPending, hb] using hp)] at hblock
      exact declined_of_refuse (k := .readyOnly) rfl hs hblock
    · rw [if_pos ((isPending_iff _).mpr ⟨b, hb, hp⟩)] at hblock
      exact answers_of_freed (k := .readyOnly) rfl hs hb hblock
  · refine declined_of_refuse (k := .readyOnly) (block := batchReportBlock) rfl hs ?_
    have hchoice := s.reportSlot?_prefers
    cases hslot : s.reportSlot? with
    | none => simp only [batchReportBlock, hslot]
    | some i =>
      rw [hslot] at hchoice
      obtain ⟨b, x, hb, hx, -⟩ := hchoice
      have hdone := h i
      rw [(isDone_iff _).mpr ⟨b, x, hb, hx⟩] at hdone
      cases hdone
  · have hchoice := s.reportSlot?_prefers
    cases hslot : s.reportSlot? with
    | none =>
      rw [hslot] at hchoice
      rw [hchoice k (List.mem_finRange k)] at hk
      cases hk
    | some i =>
      rw [hslot] at hchoice
      obtain ⟨b, x, hb, hx, hbest⟩ := hchoice
      have hblock : batchReportBlock s = ({ code := .ok, data := b.reportData x }, s.freeSlot i) := by
        simp only [batchReportBlock, hslot, hb, hx]
      obtain ⟨t, hanswers, hfreed, hfollow⟩ := answers_of_freed (c := .batchReport) (k := .readyOnly) rfl hs hb hblock
      refine ⟨t, i, b, x, hb, hx, fun j c hc hcd => (reportsBefore_iff _ _ _).mp (hbest j (List.mem_finRange j) c hc hcd), ?_,
        hfreed, hfollow⟩
      simpa [Batch.reportData, listItem, byteOf] using hanswers

/-! ### CONFIG.SET of H (R152) -/

theorem framesQueued_trans {l m : List SlotNo} {x : Dispatched} {s t u : State} (h : framesQueued l x s t)
    (h' : framesQueued m x t u) : framesQueued (l ++ m) x s u := by
  intro k
  rw [h' k, h k]
  split
  · rfl
  · rw [← List.append_assoc]

theorem State.dispatch_of_free {s : State} {i : SlotNo} (h : s.slots.get i = none) : s.dispatch i = s := by
  simp only [State.dispatch, h]

theorem State.foldl_dispatch_conditionsFollow (l : List SlotNo) {s t : State} (h : conditionsFollow [.report] s t) :
    conditionsFollow [.report] s (l.foldl (fun t i => t.dispatch i) t) := by
  induction l generalizing t with
  | nil => exact h
  | cons i rest ih =>
    refine ih (t := t.dispatch i) ?_
    cases hi : t.slots.get i with
    | none => rwa [State.dispatch_of_free hi]
    | some b => exact conditionsFollow_trans_self h (State.dispatch_conditionsFollow hi)

/-- Slipped batches dispatched one after another take the same plan: a dispatch changes neither the plan nor which trunks are
enabled. -/
theorem State.foldl_dispatch_leaves (l : List SlotNo) (s : State) (hnodup : l.Nodup)
    (hl : ∀ i ∈ l, ∃ b, s.slots.get i = some b ∧ b.slipped = true) :
    framesQueued l (s.taken true) s (l.foldl (fun t i => t.dispatch i) s)
      ∧ ∀ i, (i ∉ l → (l.foldl (fun t i => t.dispatch i) s).slots.get i = s.slots.get i)
        ∧ ∀ b, i ∈ l → s.slots.get i = some b →
          (l.foldl (fun t i => t.dispatch i) s).slots.get i = some { b with phase := phaseAfterDispatch (s.taken true) } := by
  induction l generalizing s with
  | nil => exact ⟨fun k => by simp, fun i => ⟨fun _ => rfl, fun _ h => absurd h List.not_mem_nil⟩⟩
  | cons j rest ih =>
    obtain ⟨hj, hrest⟩ := List.nodup_cons.mp hnodup
    obtain ⟨b, hb, hslipped⟩ := hl j List.mem_cons_self
    obtain ⟨hslot, hothers⟩ := State.dispatch_slotBecomes hb
    have hframes := State.dispatch_framesQueued hb
    rw [show s.taken b.slipped = s.taken true by rw [hslipped]] at hslot hframes
    have htaken : (s.dispatch j).taken true = s.taken true :=
      State.taken_congr (congrArg Solver.latest ((s.dispatch_onlyChanges j).2 .solver (by decide))) (framesQueued_enable hframes)
    have hne {i : SlotNo} (hi : i ∈ rest) : i ≠ j := fun e => hj (e ▸ hi)
    obtain ⟨ihframes, ihslots⟩ := ih (s.dispatch j) hrest fun i hi => by
      rw [hothers i (hne hi)]
      exact hl i (List.mem_cons_of_mem j hi)
    rw [htaken] at ihframes ihslots
    refine ⟨framesQueued_trans hframes ihframes, fun i => ⟨fun hi => ?_, fun c hi hc => ?_⟩⟩
    · obtain ⟨hij, hir⟩ := not_or.mp (fun h => hi (List.mem_cons.mpr h))
      exact ((ihslots i).1 hir).trans (hothers i hij)
    · rcases List.mem_cons.mp hi with rfl | hi
      · obtain rfl : b = c := Option.some.inj (hb.symm.trans hc)
        exact ((ihslots i).1 hj).trans hslot
      · exact (ihslots i).2 c hi ((hothers i (hne hi)).trans hc)

section
variable {s : State} {h : Nat} {i : SlotNo} {b : Batch}

/-- The slots under a new horizon, before any dispatch (R152). -/
def State.rehorizoned (h : Nat) (s : State) : State :=
  s.installSlots (s.slots.mapIdx fun _ o => o.map fun b => if b.phase = .pending then rehorizon s.time.now h b else b)

/-- The batches that a new horizon slips, in the pending order (R152). -/
def State.slippedOrder (h : Nat) (s : State) : List SlotNo :=
  (s.rehorizoned h).pendingOrder.filter fun i => slipsUnder s.time.now h (s.slots.get i)

theorem State.applyHorizon_eq (h : Nat) (s : State) :
    s.applyHorizon h = (s.slippedOrder h).foldl (fun t i => t.dispatch i) (s.rehorizoned h) := rfl

theorem State.rehorizoned_get (h : Nat) (s : State) (i : SlotNo) :
    (s.rehorizoned h).slots.get i =
      (s.slots.get i).map fun b => if b.phase = .pending then rehorizon s.time.now h b else b := Table.get_mapIdx _ _ i

theorem State.rehorizoned_of_moved (hb : s.slots.get i = some b) (hp : b.phase = .pending)
    (hlater : isLater (b.actual - BitVec.ofNat 32 h) s.time.now = true) :
    (s.rehorizoned h).slots.get i = some { b with dispatch := b.actual - BitVec.ofNat 32 h } := by
  have hmoved : rehorizon s.time.now h b = { b with dispatch := b.actual - BitVec.ofNat 32 h } := if_pos hlater
  rw [State.rehorizoned_get, hb, Option.map_some, if_pos hp, hmoved]

theorem State.rehorizoned_of_slipped (hb : s.slots.get i = some b) (hp : b.phase = .pending)
    (hlater : isLater (b.actual - BitVec.ofNat 32 h) s.time.now = false) :
    (s.rehorizoned h).slots.get i =
      some { b with actual := s.time.now + BitVec.ofNat 32 h, dispatch := s.time.now, slipped := true } := by
  have hslipped : rehorizon s.time.now h b =
      { b with actual := s.time.now + BitVec.ofNat 32 h, dispatch := s.time.now, slipped := true } :=
    if_neg fun e => Bool.false_ne_true (hlater.symm.trans e)
  rw [State.rehorizoned_get, hb, Option.map_some, if_pos hp, hslipped]

theorem slipsUnder_iff (now : Instant) (h : Nat) (o : Option Batch) :
    slipsUnder now h o = true ↔ ∃ b, o = some b ∧ b.phase = .pending
      ∧ isLater (b.actual - BitVec.ofNat 32 h) now = false := by
  cases o <;> simp [slipsUnder, before]

theorem State.mem_slippedOrder (h : Nat) (s : State) (i : SlotNo) :
    i ∈ s.slippedOrder h ↔ ∃ b, s.slots.get i = some b ∧ b.phase = .pending
      ∧ isLater (b.actual - BitVec.ofNat 32 h) s.time.now = false := by
  rw [State.slippedOrder, List.mem_filter, slipsUnder_iff, and_iff_right_iff_imp]
  rintro ⟨b, hb, hp, hlater⟩
  exact (State.mem_pendingOrder _ i).mpr ((isPending_iff _).mpr ⟨_, State.rehorizoned_of_slipped hb hp hlater, hp⟩)

/-- The slipped batches are all due now, so that their order is that of posting (R148, R152). -/
theorem State.slippedOrder_pairwise (h : Nat) (s : State) :
    (s.slippedOrder h).Pairwise fun i j =>
      ∀ b c, s.slots.get i = some b → s.slots.get j = some c → b.posting ≤ c.posting := by
  have hsorted := (s.rehorizoned h).pendingOrder_pairwise.filter fun i => slipsUnder s.time.now h (s.slots.get i)
  refine hsorted.imp_of_mem fun {i j} hi hj hfirst b c hb hc => ?_
  obtain ⟨b', hb', hbp, hbl⟩ := (s.mem_slippedOrder h i).mp hi
  obtain ⟨c', hc', hcp, hcl⟩ := (s.mem_slippedOrder h j).mp hj
  obtain rfl : b' = b := Option.some.inj (hb'.symm.trans hb)
  obtain rfl : c' = c := Option.some.inj (hc'.symm.trans hc)
  rw [State.slotComesFirst_some (State.rehorizoned_of_slipped hb hbp hbl) (State.rehorizoned_of_slipped hc hcp hcl)] at hfirst
  exact (due_of_comesFirst hfirst rfl).2

end

theorem horizonBlock_of_same {value : BitVec 32} {s : State} (h : clamp 10000 16000000 value.toNat = s.config.horizon) :
    horizonBlock value s = (configAnswer value.toNat (clamp 10000 16000000 value.toNat), s) := by
  simp only [horizonBlock, if_pos h]

theorem horizonBlock_of_changed {value : BitVec 32} {s : State} (h : clamp 10000 16000000 value.toNat ≠ s.config.horizon) :
    horizonBlock value s =
      (configAnswer value.toNat (clamp 10000 16000000 value.toNat),
        ((s.setParams { s.config with horizon := clamp 10000 16000000 value.toNat }).markStale).applyHorizon
          (clamp 10000 16000000 value.toNat)) := by
  simp only [horizonBlock, if_neg h]

/-- Settles O21: the recomputed batches (R152), and the slipped ones dispatched in the pending order. -/
theorem configSetHorizonMovesPending : Obligations.ConfigSetHorizonMovesPending := by
  rintro value s h answer hs hh hanswer
  obtain rfl : h = clamp 10000 16000000 value.toNat := hh
  obtain rfl : answer = configAnswer value.toNat (clamp 10000 16000000 value.toNat) := hanswer
  refine ⟨fun hsame => answersOnly_of_block (k := .readyOnly) rfl hs (horizonBlock_of_same hsame), fun hchanged => ?_⟩
  have hblock := horizonBlock_of_changed hchanged
  have honly := horizonBlock_onlyChanges s value
  rw [hblock] at honly
  generalize clamp 10000 16000000 value.toNat = h at *
  have hsame := honly.2
  obtain ⟨u, hu⟩ : ∃ u, u = (s.setParams { s.config with horizon := h }).markStale := ⟨_, rfl⟩
  rw [← hu] at hblock honly hsame
  have huslots : u.slots = s.slots := hu ▸ rfl
  have hunow : u.time = s.time := hu ▸ rfl
  have hutrunks : u.trunks = s.trunks := hu ▸ rfl
  have htaken : (u.rehorizoned h).taken true = s.taken true :=
    State.taken_congr (hu ▸ rfl) fun k => congrArg (fun x : Table Trunk 8 => (x.get k).enable) hutrunks
  have hslipped (i : SlotNo) (hi : i ∈ u.slippedOrder h) :
      ∃ b, (u.rehorizoned h).slots.get i = some b ∧ b.slipped = true := by
    obtain ⟨b, hb, hp, hlater⟩ := (u.mem_slippedOrder h i).mp hi
    exact ⟨_, State.rehorizoned_of_slipped hb hp hlater, rfl⟩
  have hnodup : (u.slippedOrder h).Nodup := (State.pendingOrder_nodup _).filter _
  obtain ⟨hframes, hslots⟩ := State.foldl_dispatch_leaves (u.slippedOrder h) (u.rehorizoned h) hnodup hslipped
  rw [htaken, ← State.applyHorizon_eq] at hframes hslots
  refine ⟨_, answers_of_block (k := .readyOnly) rfl hs hblock honly (hsame .port (by decide))
    (congrArg TimeBase.now (hsame .time (by decide))), ?_, ?_, conditionsFollow_respond _ ?_, s.taken true, u.slippedOrder h,
    s.taken_takenAtDispatch true, ?_, hnodup, ?_, ?_, fun i => ?_⟩
  · rw [State.respond_config, State.applyHorizon_config, hu]
    rfl
  · have hsolver : (u.applyHorizon h).solver = u.solver := (u.applyHorizon_onlyChanges h).2 .solver (by decide)
    rw [markedStale, State.respond_solver, hsolver, hu]
    rfl
  · have hfollow : conditionsFollow [.report] s (u.rehorizoned h) := by
      subst hu
      exact State.installSlots_conditionsFollow _ (s.setParams { s.config with horizon := h }).markStale
    rw [State.applyHorizon_eq]
    exact State.foldl_dispatch_conditionsFollow _ hfollow
  · intro k
    have hk := hframes k
    rwa [show (u.rehorizoned h).trunks = s.trunks from hutrunks] at hk
  · intro i
    rw [State.mem_slippedOrder, huslots, hunow]
  · have hpair := State.slippedOrder_pairwise h u
    rwa [huslots] at hpair
  · obtain ⟨hout, hin⟩ := hslots i
    rw [State.mem_slippedOrder, huslots, hunow] at hout hin
    refine ⟨fun hnone => ?_, fun b hb => ⟨fun hp => ?_, fun hp hlater => ?_, fun hp hlater => ?_⟩⟩
    · rw [State.respond_slots, hout (by simp [hnone]), State.rehorizoned_get, huslots, hnone]
      rfl
    · rw [State.respond_slots, hout (by simp [hb, hp]), State.rehorizoned_get, huslots, hb, Option.map_some, if_neg hp]
    · rw [State.respond_slots, hout (by simp [hb, hp, hlater])]
      exact State.rehorizoned_of_moved (huslots ▸ hb) hp (hunow ▸ hlater)
    · have hget := State.rehorizoned_of_slipped (huslots ▸ hb) hp (hunow ▸ hlater)
      rw [State.respond_slots, hin _ ⟨b, hb, hp, hlater⟩ hget, hunow]

end Sys2Proof.Machine
end

section
/-! Proofs of the families of the trunks and of the batches: the frames that start and end on a trunk (R79, R80, R158 to R161). -/

namespace Sys2Proof.Machine

/-! ### The hold lists of a batch -/

section
variable {x : Dispatched} {k j : TrunkNo} {entries : List HoldEntry}

/-- Replacing the entries of one trunk leaves which list stands where. -/
theorem Dispatched.entriesOf_withEntries_find (x : Dispatched) (k j : TrunkNo) (entries : List HoldEntry) :
    (x.withEntries k entries).holdLists.find? (fun l => decide (l.trunk = j)) =
      (x.holdLists.find? fun l => decide (l.trunk = j)).map fun l => if l.trunk = k then { l with entries := entries } else l := by
  have hsame : ((fun l : HoldList => decide (l.trunk = j)) ∘ fun l => if l.trunk = k then { l with entries := entries } else l) =
      fun l => decide (l.trunk = j) := by
    funext l
    simp only [Function.comp_apply]
    split <;> rfl
  rw [Dispatched.withEntries, List.find?_map, hsame]

theorem Dispatched.entriesOf_withEntries_of_ne (h : j ≠ k) : (x.withEntries k entries).entriesOf j = x.entriesOf j := by
  unfold Dispatched.entriesOf
  rw [Dispatched.entriesOf_withEntries_find]
  cases hl : x.holdLists.find? fun l => decide (l.trunk = j) with
  | none => rfl
  | some l =>
    have hj : l.trunk = j := by simpa using List.find?_some hl
    simp [hj, h]

theorem Dispatched.entriesOf_withEntries_self (h : ∃ l ∈ x.holdLists, l.trunk = k) :
    (x.withEntries k entries).entriesOf k = entries := by
  obtain ⟨l, hl, hk⟩ := h
  obtain ⟨m, hm⟩ := Option.isSome_iff_exists.mp
    (List.find?_isSome (p := fun l : HoldList => decide (l.trunk = k)) |>.mpr ⟨l, hl, decide_eq_true hk⟩)
  have hmk : m.trunk = k := by simpa using List.find?_some hm
  unfold Dispatched.entriesOf
  rw [Dispatched.entriesOf_withEntries_find, hm]
  simp [hmk]

end

/-! ### BATCH_FRAME_START -/

theorem startFrame_of_dispatching {k : TrunkNo} {g : Granularity} {now : Instant} {b : Batch} {x : Dispatched} {n : Nat}
    (h : b.phase = .dispatching x n) :
    startFrame k g now b =
      ({ b with
          phase := .dispatching
            (x.withEntries k (fixEntries g (horizonCorrection b x) (interval b.dispatch now) (x.entriesOf k))) n },
        fixEntries g (horizonCorrection b x) (interval b.dispatch now) (x.entriesOf k)) := by
  simp only [startFrame, h]

/-- Settles O44: the transmitter idle with a batch frame waiting, or not. -/
theorem batchFrameStartFixesHolds : Obligations.BatchFrameStartFixesHolds := by
  rintro k s tr rfl
  refine ⟨fun h => congrArg Host.Outcome.next ?_, fun i rest b x n htx hqueue hb hx _ hlist => ?_⟩
  · split
    next htx hqueue => exact absurd hqueue (by simp [h.resolve_left (not_not_intro htx)])
    · rfl
  · have hstart := startFrame_of_dispatching (k := k) (g := (s.trunks.get k).gran) (now := s.time.now) hx
    have hself := Dispatched.entriesOf_withEntries_self (entries := fixEntries (s.trunks.get k).gran (horizonCorrection b x)
      (interval b.dispatch s.time.now) (x.entriesOf k)) hlist
    have hexec : exec (.batchFrameStart k) s = .next
        ((s.putSlot i (some (startFrame k (s.trunks.get k).gran s.time.now b).1)).putTrunk k
          { s.trunks.get k with
            batchQueue := rest
            tx := some
              { item := .batch i
                frame := batchFrame b.tag (startFrame k (s.trunks.get k).gran s.time.now b).2 b.payload
                startRaw := s.time.rawCount } }) :=
      congrArg Host.Outcome.next (by simp only [htx, hqueue, hb])
    rw [hstart] at hexec
    refine ⟨_, _, ⟨hexec, exec_onlyChanges hexec⟩, State.putSlot_slotBecomes i _ s, ?_, rfl, rfl, rfl,
      fun j hj => Dispatched.entriesOf_withEntries_of_ne hj, hself, ?_⟩
    · exact conditionsFollow_of_same (State.installSlots_conditionsFollow _ s) rfl fun c _ => by cases c <;> exact Iff.rfl
    · rw [hself]
      exact State.putTrunk_trunkBecomes k _ _

/-! ### The late list (R159) -/

theorem lateOf_length (entries : List HoldEntry) :
    (lateOf entries).length = (entries.filter fun e => decide (0 < e.lateness)).length := List.length_map _

section
variable (old new : List (SiteNo × Nat))

/-- The late entries of before and of the frame, by ascending site number. -/
def sortedLate : List (SiteNo × Nat) := (old ++ new).insertionSort fun a b => a.1 ≤ b.1

theorem sortedLate_pairwise : (sortedLate old new).Pairwise fun a b => a.1 ≤ b.1 :=
  haveI : Std.Total fun a b : SiteNo × Nat => a.1 ≤ b.1 := ⟨fun a b => le_total a.1 b.1⟩
  haveI : IsTrans (SiteNo × Nat) fun a b => a.1 ≤ b.1 := ⟨fun _ _ _ h h' => le_trans h h'⟩
  List.pairwise_insertionSort _ _

theorem mergeLate_eq : mergeLate old new = (sortedLate old new).take 16 := rfl

/-- The late list holds the 16 smallest of the late entries, in ascending order. -/
theorem mergeLate_spec :
    ((mergeLate old new).Pairwise fun a b => a.1 ≤ b.1)
      ∧ ∃ rest, (mergeLate old new ++ rest).Perm (old ++ new)
        ∧ ((mergeLate old new).length = 16 ∨ (mergeLate old new).length < 16 ∧ rest = [])
        ∧ ∀ a ∈ mergeLate old new, ∀ b ∈ rest, a.1 ≤ b.1 := by
  have hsorted := sortedLate_pairwise old new
  rw [← List.take_append_drop 16 (sortedLate old new), List.pairwise_append] at hsorted
  obtain ⟨htake, -, hcross⟩ := hsorted
  rw [mergeLate_eq]
  refine ⟨htake, (sortedLate old new).drop 16, ?_, ?_, hcross⟩
  · rw [List.take_append_drop]
    exact List.perm_insertionSort _ _
  · rw [List.length_take, List.drop_eq_nil_iff]
    omega

end

/-! ### FRAME_END -/

section
variable {s : State} {k : TrunkNo} {i : SlotNo} {b : Batch} {x : Dispatched} {n : Nat} {sent : Bool}

/-- What the end of a frame makes of what its batch took (R159). -/
def Dispatched.frameReported (k : TrunkNo) (sent : Bool) (x : Dispatched) : Dispatched :=
  { x with report := reportFrame sent (x.entriesOf k) x.report }

theorem State.frameEnded_of_more (hb : s.slots.get i = some b) (hx : b.phase = .dispatching x n) (hn : 1 < n) :
    s.frameEnded k sent i = s.putSlot i (some { b with phase := .dispatching (x.frameReported k sent) (n - 1) }) := by
  simp only [State.frameEnded, hb, hx, if_neg (Nat.not_le.mpr hn)]
  rfl

/-- The last frame of a batch, which settles later (R160). -/
theorem State.frameEnded_of_last (hb : s.slots.get i = some b) (hx : b.phase = .dispatching x n) (hn : n ≤ 1)
    (hlater : isLater (b.actual + BitVec.ofNat 32 200000) s.time.now = true) :
    s.frameEnded k sent i =
      s.putSlot i (some { b with phase := .inFlight (x.frameReported k sent) (b.actual + BitVec.ofNat 32 200000) }) := by
  simp only [State.frameEnded, hb, hx, if_pos hn, State.enterInFlight, after, settleAllowance, hlater, if_true]
  rfl

/-- The last frame of a batch whose settle deadline is not later than now (R160). -/
theorem State.frameEnded_of_settled (hb : s.slots.get i = some b) (hx : b.phase = .dispatching x n) (hn : n ≤ 1)
    (hlater : isLater (b.actual + BitVec.ofNat 32 200000) s.time.now = false) :
    s.frameEnded k sent i = s.finish i b (x.frameReported k sent) := by
  simp only [State.frameEnded, hb, hx, if_pos hn, State.enterInFlight, after, settleAllowance, hlater, Bool.false_eq_true, if_false]
  rfl

theorem State.frameEnded_of_other (h : ∀ b x n, s.slots.get i = some b → b.phase ≠ .dispatching x n) :
    s.frameEnded k sent i = s := by
  unfold State.frameEnded
  split
  next b hb =>
    split
    next x n hx => exact absurd hx (h b x n hb)
    all_goals rfl
  · rfl

/-- A transmitter whose frame has passed whole is due to end it (R74, R79). -/
theorem State.stepDue_of_line_over {x : Transmission} (hx : (s.trunks.get k).tx = some x)
    (h : lineTimeOver (s.trunks.get k).rate x.frame.length x.startRaw s.time.rawCount = true) : s.stepDue = true := by
  have htrunk (p : Trunk → Bool) (hp : p (s.trunks.get k) = true) : s.trunks.any p = true := (Table.any_iff _ _).mpr ⟨k, hp⟩
  unfold State.stepDue
  simp only [Bool.or_eq_true]
  refine .inl (.inl (.inl (.inl (.inr (htrunk _ ?_)))))
  simp only [hx, h, Bool.or_true, Bool.true_or]

end

theorem execNoticeReplyStart_of_idle {s : State} {k : TrunkNo}
    (h : (s.trunks.get k).tx ≠ none ∨ (s.trunks.get k).batchQueue ≠ [] ∨ (s.trunks.get k).replyQueue = []) :
    execNoticeReplyStart k s = .next s := by
  refine congrArg Host.Outcome.next ?_
  split
  next htx hbatch hreply => simp [htx, hbatch, hreply] at h
  · rfl

theorem execFrameEnd_of_idle {s : State} {k : TrunkNo} (h : (s.trunks.get k).tx = none) : execFrameEnd k s = .next s := by
  simp only [execFrameEnd, h]

theorem execFrameEnd_of_early {s : State} {k : TrunkNo} {x : Transmission} (hx : (s.trunks.get k).tx = some x)
    (h : lineTimePassed (s.trunks.get k).rate x.frame.length x.startRaw s.time.rawCount = false) :
    execFrameEnd k s = .next s := by
  simp only [execFrameEnd, hx, h, Bool.false_eq_true, if_false]

theorem execFrameEnd_of_passed {s : State} {k : TrunkNo} {x : Transmission} (hx : (s.trunks.get k).tx = some x)
    (h : lineTimePassed (s.trunks.get k).rate x.frame.length x.startRaw s.time.rawCount = true) :
    (∀ i, x.item = .batch i →
        execFrameEnd k s = .next ((s.putTrunk k { s.trunks.get k with tx := none }).frameEnded k true i))
      ∧ ((∀ i, x.item ≠ .batch i) → execFrameEnd k s = .next (s.putTrunk k { s.trunks.get k with tx := none })) := by
  simp only [execFrameEnd, hx, h, if_true]
  cases hitem : x.item with
  | batch i =>
    refine ⟨fun j hj => ?_, fun hne => absurd rfl (hne i)⟩
    cases hj
    rfl
  | probe i | reply a => exact ⟨nofun, fun _ => rfl⟩

/-- The end of a frame leaves the trunks to the transmitter. -/
theorem State.frameEnded_trunks_same (k : TrunkNo) (sent : Bool) (i : SlotNo) (s : State) :
    (s.frameEnded k sent i).trunks = s.trunks := (State.frameEnded_onlyChanges k sent i s).2 .trunks (by decide)

/-- Settles O45, by the transmitter's state and the item it sends; the batch's end by the number of frames left and the settle
deadline. -/
theorem framesStartAndEnd : Obligations.FramesStartAndEnd := by
  rintro k s tr rfl
  refine ⟨execNoticeReplyStart_of_idle, fun r rest htx hbatch hreply => ?_, execFrameEnd_of_idle, fun x hx => ⟨fun hearly => ?_,
    fun hpassed => ?_⟩⟩
  · have hexec : exec (.noticeReplyStart k) s = .next (s.putTrunk k
        { s.trunks.get k with
          replyQueue := rest
          tx := some { item := .reply r.address, frame := replyFrame r, startRaw := s.time.rawCount } }) :=
      congrArg Host.Outcome.next (by simp only [htx, hbatch, hreply])
    exact ⟨_, ⟨hexec, exec_onlyChanges hexec⟩, State.putTrunk_trunkBecomes k _ s⟩
  · exact execFrameEnd_of_early hx (decide_eq_false (Nat.not_le.mpr hearly))
  obtain ⟨hbatch, hother⟩ := execFrameEnd_of_passed hx (decide_eq_true hpassed)
  refine ⟨fun hover => State.stepDue_of_line_over hx (decide_eq_true hover), fun hitem => ?_, fun i b y n hitem hb hy => ?_⟩
  · have hexec : exec (.frameEnd k) s = .next _ := hother hitem
    exact ⟨_, ⟨hexec, State.putTrunk_onlyChanges k _ s⟩, State.putTrunk_trunkBecomes k _ s⟩
  have hexec : exec (.frameEnd k) s = .next _ := hbatch i hitem
  obtain ⟨u, hu⟩ : ∃ u, u = s.putTrunk k { s.trunks.get k with tx := none } := ⟨_, rfl⟩
  rw [← hu] at hexec
  have htrunk : trunkBecomes k { s.trunks.get k with tx := none } s (u.frameEnded k true i) := by
    rw [trunkBecomes, otherTrunksSame, State.frameEnded_trunks_same, hu]
    exact State.putTrunk_trunkBecomes k _ s
  have hub : u.slots.get i = some b := hu ▸ hb
  have hsolver : u.solver = s.solver := hu ▸ rfl
  have hsites : u.sites = s.sites := hu ▸ rfl
  have hnow : u.time.now = s.time.now := hu ▸ rfl
  have hslots {v : State} {o : Option Batch} (h : slotBecomes i o u v) : slotBecomes i o s v := by
    subst hu
    exact h
  have hfollow {l : List Cause} {v : State} (h : conditionsFollow l u v) : conditionsFollow l s v := by
    subst hu
    exact h
  have honly : onlyChanges [.trunks] s u := hu ▸ State.putTrunk_onlyChanges k _ s
  have hputOnly (o : Option Batch) : onlyChanges [.trunks, .slots, .attention] s (u.putSlot i o) :=
    onlyChanges_trans (onlyChanges_mono honly (by decide)) (onlyChanges_mono (State.putSlot_onlyChanges i o u) (by decide))
  obtain ⟨hsorted, hrest⟩ := mergeLate_spec y.report.lateList (lateOf (y.entriesOf k))
  refine ⟨_, y.frameReported k true, mergeLate y.report.lateList (lateOf (y.entriesOf k)), ⟨hexec, exec_onlyChanges hexec⟩,
    htrunk, ?_, hsorted, hrest, fun hn => ?_, fun hn hlater => ?_, fun hn hlater => ?_⟩
  · rw [← lateOf_length]
    rfl
  · rw [State.frameEnded_of_more hub hy hn]
    exact ⟨hslots (State.putSlot_slotBecomes i _ u), hputOnly _, hfollow (State.installSlots_conditionsFollow _ u)⟩
  · rw [State.frameEnded_of_last hub hy hn.le (hnow ▸ hlater)]
    exact ⟨hslots (State.putSlot_slotBecomes i _ u), hputOnly _, hfollow (State.installSlots_conditionsFollow _ u)⟩
  · rw [State.frameEnded_of_settled hub hy hn.le (hnow ▸ hlater)]
    have hstale := State.finish_stale i b (y.frameReported k true) u
    rw [hsolver, hsites] at hstale
    have hrun : retireTestRun s (u.finish i b (y.frameReported k true)) := State.retireTest_run hsites (hu ▸ rfl)
    exact ⟨hslots (State.putSlot_slotBecomes i _ u), hfollow (State.finish_conditionsFollow i b _ u), hu ▸ rfl, hu ▸ rfl,
      hstale, hrun⟩

end Sys2Proof.Machine
end

section
/-! Proof of O23: the batch frames that the disabling of a trunk drops, the sites it reaches, and the conditions. -/

namespace Sys2Proof.Machine

/-! ### Conditions that arrivals leave alone -/

/-- The attention unit is as it was but for these causes. -/
def leavesOtherCauses (l : List Cause) (s t : State) : Prop :=
  t.attention.mask = s.attention.mask ∧ t.attention.calOutcome = s.attention.calOutcome
    ∧ ∀ c : Cause, c ∉ l → t.attention.present.has c = s.attention.present.has c

section
variable {l m : List Cause} {s t u : State}

theorem leavesOtherCauses_refl (l : List Cause) (s : State) : leavesOtherCauses l s s := ⟨rfl, rfl, fun _ _ => rfl⟩

theorem leavesOtherCauses_trans (h : leavesOtherCauses l s t) (k : leavesOtherCauses l t u) : leavesOtherCauses l s u :=
  ⟨k.1.trans h.1, k.2.1.trans h.2.1, fun c hc => (k.2.2 c hc).trans (h.2.2 c hc)⟩

theorem leavesOtherCauses_of_follow (h : conditionsFollow l s t) (hsub : l ⊆ m) : leavesOtherCauses m s t := by
  obtain ⟨hmask, hcal, hcauses⟩ := h
  refine ⟨hmask, hcal, fun c hc => ?_⟩
  have h := hcauses c
  rwa [if_neg fun hl => hc (hsub hl)] at h

/-- Where all conditions agree with their sources and only these may have changed, these follow. -/
theorem conditionsFollow_of_agree (hleaves : leavesOtherCauses l s t) (ht : causesAgree t) (hstep : Cause.step ∉ l) :
    conditionsFollow l s t := by
  obtain ⟨hmask, hcal, hcauses⟩ := hleaves
  refine ⟨hmask, hcal, fun c => ?_⟩
  split
  next hc => exact ht c fun e => hstep (e ▸ hc)
  next hc => exact hcauses c hc

end

/-! ### The slots through the ends of frames -/

section
variable {s : State} {k : TrunkNo} {sent : Bool} {i j : SlotNo} {b : Batch} {x : Dispatched} {n : Nat}

/-- The four outcomes of a frame's end for its batch (R159, R160). -/
theorem State.frameEnded_cases (k : TrunkNo) (sent : Bool) (i : SlotNo) (s : State) :
    s.frameEnded k sent i = s
      ∨ ∃ b x n, s.slots.get i = some b ∧ b.phase = .dispatching x n
        ∧ (s.frameEnded k sent i = s.putSlot i (some { b with phase := .dispatching (x.frameReported k sent) (n - 1) })
          ∨ s.frameEnded k sent i =
              s.putSlot i (some { b with phase := .inFlight (x.frameReported k sent) (b.actual + BitVec.ofNat 32 200000) })
          ∨ s.frameEnded k sent i = s.finish i b (x.frameReported k sent)) := by
  by_cases h : ∃ b x n, s.slots.get i = some b ∧ b.phase = .dispatching x n
  · obtain ⟨b, x, n, hb, hx⟩ := h
    refine .inr ⟨b, x, n, hb, hx, ?_⟩
    rcases Nat.lt_or_ge 1 n with hn | hn
    · exact .inl (State.frameEnded_of_more hb hx hn)
    · cases hlater : isLater (b.actual + BitVec.ofNat 32 200000) s.time.now with
      | true => exact .inr (.inl (State.frameEnded_of_last hb hx hn hlater))
      | false => exact .inr (.inr (State.frameEnded_of_settled hb hx hn hlater))
  · exact .inl (State.frameEnded_of_other fun b x n hb hx => h ⟨b, x, n, hb, hx⟩)

theorem State.frameEnded_slots_of_ne (h : j ≠ i) : (s.frameEnded k sent i).slots.get j = s.slots.get j := by
  rcases State.frameEnded_cases k sent i s with e | ⟨b, x, n, -, -, e | e | e⟩ <;> rw [e]
  · exact (State.putSlot_slotBecomes i _ s).2 j h
  · exact (State.putSlot_slotBecomes i _ s).2 j h
  · exact (State.putSlot_slotBecomes i _ s).2 j h

theorem State.foldl_frameEnded_slots_of_not_mem {l : List SlotNo} (h : j ∉ l) :
    (l.foldl (fun s i => s.frameEnded k sent i) s).slots.get j = s.slots.get j := by
  induction l generalizing s with
  | nil => rfl
  | cons i rest ih =>
    obtain ⟨hji, hrest⟩ := not_or.mp fun e => h (List.mem_cons.mpr e)
    exact (ih hrest).trans (State.frameEnded_slots_of_ne hji)

/-- The end of a frame leaves now, and what the batch's slot holds after it says R160. -/
theorem State.frameEnded_slots_self (hb : s.slots.get i = some b) (hx : b.phase = .dispatching x n) :
    (1 < n → (s.frameEnded k sent i).slots.get i =
        some { b with phase := .dispatching (x.frameReported k sent) (n - 1) })
      ∧ (n = 1 → (s.frameEnded k sent i).slots.get i = some
        { b with
          phase :=
            if isLater (b.actual + BitVec.ofNat 32 200000) s.time.now then
              .inFlight (x.frameReported k sent) (b.actual + BitVec.ofNat 32 200000)
            else .done (x.frameReported k sent) }) := by
  refine ⟨fun hn => ?_, fun hn => ?_⟩
  · rw [State.frameEnded_of_more hb hx hn]
    exact (State.putSlot_slotBecomes i _ s).1
  · cases hlater : isLater (b.actual + BitVec.ofNat 32 200000) s.time.now with
    | true =>
      rw [State.frameEnded_of_last hb hx hn.le hlater]
      exact (State.putSlot_slotBecomes i _ s).1
    | false =>
      rw [State.frameEnded_of_settled hb hx hn.le hlater]
      exact (State.putSlot_slotBecomes i _ s).1

theorem State.foldl_frameEnded_time (l : List SlotNo) (s : State) :
    (l.foldl (fun s i => s.frameEnded k sent i) s).time = s.time :=
  (onlyChanges_foldl _ (fun s i => State.frameEnded_onlyChanges k sent i s) l s).2 .time (by decide)

/-- A slot that stands once among the dropped ones has one frame ended. -/
theorem State.foldl_frameEnded_slots_of_once {l : List SlotNo} (h : l.count i = 1) (hb : s.slots.get i = some b)
    (hx : b.phase = .dispatching x n) :
    (1 < n → (l.foldl (fun s i => s.frameEnded k sent i) s).slots.get i =
        some { b with phase := .dispatching (x.frameReported k sent) (n - 1) })
      ∧ (n = 1 → (l.foldl (fun s i => s.frameEnded k sent i) s).slots.get i = some
        { b with
          phase :=
            if isLater (b.actual + BitVec.ofNat 32 200000) s.time.now then
              .inFlight (x.frameReported k sent) (b.actual + BitVec.ofNat 32 200000)
            else .done (x.frameReported k sent) }) := by
  have hmem : i ∈ l := List.count_pos_iff.mp (by omega)
  obtain ⟨l₁, l₂, rfl⟩ := List.append_of_mem hmem
  have hcount : l₁.count i = 0 ∧ l₂.count i = 0 := by
    rw [List.count_append, List.count_cons_self] at h
    omega
  have hfirst : (l₁.foldl (fun s i => s.frameEnded k sent i) s).slots.get i = some b :=
    (State.foldl_frameEnded_slots_of_not_mem (List.count_eq_zero.mp hcount.1)).trans hb
  have hself := State.frameEnded_slots_self (k := k) (sent := sent) hfirst hx
  rw [State.foldl_frameEnded_time] at hself
  rw [List.foldl_append, List.foldl_cons, State.foldl_frameEnded_slots_of_not_mem (List.count_eq_zero.mp hcount.2)]
  exact hself

end

/-! ### The sites through the ends of frames -/

section
variable {s u v : State}

/-- A batch has entered DONE. -/
def newlyDone (s u : State) : Prop := ∃ j, isDone (s.slots.get j) = false ∧ isDone (u.slots.get j) = true

/-- A state reached by ends of frames: hold lists are named by no more batches than before, DONE batches stay, and once a batch
has entered DONE the sites that pass the retire-completion test are vacated, and no others (R35, R161). -/
structure SweptSince (s u : State) : Prop where
  names : ∀ i j, batchNames i (u.slots.get j) = true → batchNames i (s.slots.get j) = true
  done : ∀ j, isDone (s.slots.get j) = true → isDone (u.slots.get j) = true
  latest : u.solver.latest = s.solver.latest
  running : u.solver.running = s.solver.running
  vacated : ∀ i, passesAfter s u i ∧ newlyDone s u → u.sites.get i = SiteRecord.vacant
  kept : ∀ i, ¬(passesAfter s u i ∧ newlyDone s u) → u.sites.get i = s.sites.get i
  order : vacatedLeaveOrder s u

theorem vacatedLeaveOrder_of_same (hs : u.sites = s.sites) (ho : u.noticeOrder = s.noticeOrder) : vacatedLeaveOrder s u := by
  rw [vacatedLeaveOrder, ho, hs]
  refine (List.filter_eq_self.mpr fun j _ => ?_).symm
  rw [Bool.not_eq_true', Bool.and_eq_false_iff, decide_eq_false_iff_not, decide_eq_false_iff_not]
  by_cases hr : (s.sites.get j).state = .retiring
  · exact .inr fun hv => nomatch hr.symm.trans hv
  · exact .inl hr

theorem SweptSince.start (hslots : u.slots = s.slots) (hsolver : u.solver = s.solver) (hsites : u.sites = s.sites)
    (horder : u.noticeOrder = s.noticeOrder) : SweptSince s u where
  names i j h := hslots ▸ h
  done j h := hslots ▸ h
  latest := congrArg Solver.latest hsolver
  running := congrArg Solver.running hsolver
  vacated i h := by
    obtain ⟨-, j, hno, hyes⟩ := h
    rw [hslots, hno] at hyes
    cases hyes
  kept i _ := by rw [hsites]
  order := vacatedLeaveOrder_of_same hsites horder

/-- A batch that goes on among the active ones changes nothing for the sites. -/
theorem SweptSince.putActive {i : SlotNo} {b c : Batch} (h : SweptSince s u) (hb : u.slots.get i = some b)
    (hnames : ∀ j, batchNames j (some c) = batchNames j (some b)) (hdone : isDone (some c) = isDone (some b)) :
    SweptSince s (u.putSlot i (some c)) := by
  have hgetNames (j : SiteNo) (l : SlotNo) :
      batchNames j ((u.putSlot i (some c)).slots.get l) = batchNames j (u.slots.get l) := by
    by_cases e : l = i
    · rw [e, (State.putSlot_slotBecomes i _ u).1, hb, hnames]
    · rw [(State.putSlot_slotBecomes i _ u).2 l e]
  have hgetDone (l : SlotNo) : isDone ((u.putSlot i (some c)).slots.get l) = isDone (u.slots.get l) := by
    by_cases e : l = i
    · rw [e, (State.putSlot_slotBecomes i _ u).1, hb, hdone]
    · rw [(State.putSlot_slotBecomes i _ u).2 l e]
  have hpasses (j : SiteNo) : passesAfter s (u.putSlot i (some c)) j ↔ passesAfter s u j :=
    and_congr Iff.rfl (and_congr Iff.rfl (forall_congr' fun l => by rw [hgetNames]))
  have hnew : newlyDone s (u.putSlot i (some c)) ↔ newlyDone s u := exists_congr fun l => by rw [hgetDone]
  exact
    { names := fun j l hl => h.names j l (hgetNames j l ▸ hl)
      done := fun l hl => (hgetDone l).trans (h.done l hl)
      latest := h.latest
      running := h.running
      vacated := fun j hj => h.vacated j (by rwa [hpasses, hnew] at hj)
      kept := fun j hj => h.kept j (by rwa [hpasses, hnew] at hj)
      order := h.order }

/-- A batch that enters DONE has the retire-completion test run (R161). -/
theorem SweptSince.finish {i : SlotNo} {b : Batch} {x : Dispatched} {n : Nat} (h : SweptSince s u)
    (hb : u.slots.get i = some b) (hx : b.phase = .dispatching x n) (y : Dispatched) : SweptSince s (u.finish i b y) := by
  obtain ⟨w, hw⟩ : ∃ w, w = u.putSlot i (some { b with phase := .done y }) := ⟨_, rfl⟩
  have hv : u.finish i b y = w.retireTest := hw ▸ rfl
  rw [hv]
  have hwself : w.slots.get i = some { b with phase := .done y } := hw ▸ (State.putSlot_slotBecomes i _ u).1
  have hwothers (l : SlotNo) (hl : l ≠ i) : w.slots.get l = u.slots.get l := hw ▸ (State.putSlot_slotBecomes i _ u).2 l hl
  have hwsites : w.sites = u.sites := hw ▸ rfl
  have hworder : w.noticeOrder = u.noticeOrder := hw ▸ rfl
  have hwsolver : w.solver = u.solver := hw ▸ rfl
  have hnames (j : SiteNo) (l : SlotNo) (hl : batchNames j (w.slots.get l) = true) : batchNames j (u.slots.get l) = true := by
    by_cases e : l = i
    · rw [e, hwself] at hl
      cases hl
    · rwa [hwothers l e] at hl
  have hdone (l : SlotNo) (hl : isDone (u.slots.get l) = true) : isDone (w.slots.get l) = true := by
    by_cases e : l = i
    · rw [e, hwself]
      rfl
    · rwa [hwothers l e]
  have hnew : newlyDone s w := by
    refine ⟨i, ?_, by rw [hwself]; rfl⟩
    by_contra hd
    have hud := h.done i (by simpa using hd)
    rw [hb] at hud
    simp [isDone, hx] at hud
  -- a site vacated before stays vacated: later tests find fewer batches naming it
  have hkeeps {j : SiteNo} (hp : passesAfter s u j) : passesAfter s w j := by
    obtain ⟨hr, hl, hn⟩ := hp
    refine ⟨hr, by rwa [hwsolver], fun l => ?_⟩
    rw [Bool.eq_false_iff]
    exact fun hl => Bool.false_ne_true ((hn l).symm.trans (hnames j l hl))
  have hpass {j : SiteNo} (hsame : u.sites.get j = s.sites.get j) : w.passesRetireTest j = true ↔ passesAfter s w j := by
    rw [State.passesRetireTest_iff, hwsites, hsame]
    exact Iff.rfl
  have hgone {j : SiteNo} (hvac : u.sites.get j = SiteRecord.vacant) : ¬w.passesRetireTest j = true := fun hp => by
    have hr := ((State.passesRetireTest_iff w j).mp hp).1
    rw [hwsites, hvac] at hr
    cases hr
  have hsites (j : SiteNo) :
      (passesAfter s w j → w.retireTest.sites.get j = SiteRecord.vacant)
        ∧ (¬passesAfter s w j → w.retireTest.sites.get j = s.sites.get j) := by
    rw [State.retireTest_get, hwsites]
    by_cases hswept : passesAfter s u j ∧ newlyDone s u
    · have hvac := h.vacated j hswept
      rw [if_neg (hgone hvac), hvac]
      exact ⟨fun _ => rfl, fun hn => absurd (hkeeps hswept.1) hn⟩
    · have hsame := h.kept j hswept
      exact ⟨fun hp => if_pos ((hpass hsame).mpr hp), fun hn => (if_neg fun hp => hn ((hpass hsame).mp hp)).trans hsame⟩
  refine
    { names := fun j l hl => h.names j l (hnames j l hl)
      done := fun l hl => hdone l (h.done l hl)
      latest := (congrArg Solver.latest hwsolver).trans h.latest
      running := (congrArg Solver.running hwsolver).trans h.running
      vacated := fun j hj => (hsites j).1 hj.1
      kept := fun j hj => (hsites j).2 fun hp => hj ⟨hp, hnew⟩
      order := ?_ }
  have horder := h.order
  rw [vacatedLeaveOrder] at horder ⊢
  rw [State.retireTest_noticeOrder, hworder, horder, List.filter_filter]
  refine List.filter_congr fun j _ => ?_
  rw [State.retireTest_get, hwsites]
  by_cases hswept : passesAfter s u j ∧ newlyDone s u
  · have hvac := h.vacated j hswept
    simp [hgone hvac]
  · have hsame := h.kept j hswept
    rw [hsame]
    cases hp : w.passesRetireTest j with
    | false => simp
    | true =>
      obtain ⟨hr, -⟩ := (hpass hsame).mp hp
      have hvac : SiteRecord.vacant.state = .vacant := rfl
      simp [hr, hvac]

theorem SweptSince.frameEnded (h : SweptSince s u) (k : TrunkNo) (sent : Bool) (i : SlotNo) :
    SweptSince s (u.frameEnded k sent i) := by
  rcases State.frameEnded_cases k sent i u with e | ⟨b, x, n, hb, hx, e | e | e⟩ <;> rw [e]
  · exact h
  · exact h.putActive hb (fun j => by simp only [batchNames, hx]; rfl) (by simp only [isDone, hx])
  · exact h.putActive hb (fun j => by simp only [batchNames, hx]; rfl) (by simp only [isDone, hx])
  · exact h.finish hb hx _

theorem SweptSince.foldl_frameEnded (h : SweptSince s u) (k : TrunkNo) (sent : Bool) (l : List SlotNo) :
    SweptSince s (l.foldl (fun s i => s.frameEnded k sent i) u) := by
  induction l generalizing u with
  | nil => exact h
  | cons i rest ih => exact ih (h.frameEnded k sent i)

theorem State.frameEnded_leavesOtherCauses (k : TrunkNo) (sent : Bool) (i : SlotNo) (s : State) :
    leavesOtherCauses [.suspect, .holdover, .drift, .notice, .report] s (s.frameEnded k sent i) := by
  rcases State.frameEnded_cases k sent i s with e | ⟨b, x, n, -, -, e | e | e⟩ <;> rw [e]
  · exact leavesOtherCauses_refl _ s
  · exact leavesOtherCauses_of_follow (State.installSlots_conditionsFollow _ s) (by decide)
  · exact leavesOtherCauses_of_follow (State.installSlots_conditionsFollow _ s) (by decide)
  · exact leavesOtherCauses_of_follow (State.finish_conditionsFollow i b _ s) (by decide)

theorem State.foldl_frameEnded_leavesOtherCauses (k : TrunkNo) (sent : Bool) (l : List SlotNo) (s : State) :
    leavesOtherCauses [.suspect, .holdover, .drift, .notice, .report] s (l.foldl (fun s i => s.frameEnded k sent i) s) := by
  induction l generalizing s with
  | nil => exact leavesOtherCauses_refl _ s
  | cons i rest ih => exact leavesOtherCauses_trans (State.frameEnded_leavesOtherCauses k sent i s) (ih _)

end

/-! ### The disabling (R72) -/

section
variable {s : State} {k : TrunkNo}

/-- The state in which the trunk is disabled and its batch frames are still to be reported dropped. -/
def State.trunkCleared (k : TrunkNo) (r : BitRate) (g : Granularity) (d : Nat) (s : State) : State :=
  (s.putTrunk k ((s.trunks.get k).configured r g d)).putTrunk k ((s.trunks.get k).configured r g d).disabled

/-- The state after the batch frames of a disabled trunk are dropped, before the sites are reached. -/
def State.framesDropped (k : TrunkNo) (r : BitRate) (g : Granularity) (d : Nat) (s : State) : State :=
  (s.trunks.get k).droppedSlots.foldl (fun s i => s.frameEnded k false i) (s.trunkCleared k r g d)

theorem State.configureTrunk_of_disabling (h : (s.trunks.get k).enable = true) (r : BitRate) (g : Granularity) (d : Nat) :
    s.configureTrunk k false r g d =
      ((s.framesDropped k r g d).mapSites fun _ r => r.trunkDisabled k).markStale := by
  have hget : (s.putTrunk k ((s.trunks.get k).configured r g d)).trunks.get k = (s.trunks.get k).configured r g d :=
    Table.get_set_self _ k _
  simp only [State.configureTrunk, h, State.disableTrunk, hget]
  rfl

section
variable (k : TrunkNo) (r : BitRate) (g : Granularity) (d : Nat) (s : State)

theorem State.framesDropped_swept : SweptSince s (s.framesDropped k r g d) := by
  have hstart : SweptSince s (s.trunkCleared k r g d) := .start rfl rfl rfl rfl
  exact hstart.foldl_frameEnded k false _

theorem State.framesDropped_leavesOtherCauses :
    leavesOtherCauses [.suspect, .holdover, .drift, .notice, .report] s (s.framesDropped k r g d) := by
  have hstart : leavesOtherCauses [.suspect, .holdover, .drift, .notice, .report] s (s.trunkCleared k r g d) :=
    leavesOtherCauses_refl _ s
  exact leavesOtherCauses_trans hstart (State.foldl_frameEnded_leavesOtherCauses k false _ _)

theorem State.framesDropped_slots_of_not_mem {i : SlotNo} (h : i ∉ (s.trunks.get k).droppedSlots) :
    (s.framesDropped k r g d).slots.get i = s.slots.get i :=
  State.foldl_frameEnded_slots_of_not_mem (s := s.trunkCleared k r g d) h

theorem State.framesDropped_slots_of_once {i : SlotNo} {b : Batch} {x : Dispatched} {n : Nat}
    (h : (s.trunks.get k).droppedSlots.count i = 1) (hb : s.slots.get i = some b) (hx : b.phase = .dispatching x n) :
    (1 < n → (s.framesDropped k r g d).slots.get i =
        some { b with phase := .dispatching (x.frameReported k false) (n - 1) })
      ∧ (n = 1 → (s.framesDropped k r g d).slots.get i = some
        { b with
          phase :=
            if isLater (b.actual + BitVec.ofNat 32 200000) s.time.now then
              .inFlight (x.frameReported k false) (b.actual + BitVec.ofNat 32 200000)
            else .done (x.frameReported k false) }) :=
  State.foldl_frameEnded_slots_of_once (s := s.trunkCleared k r g d) h hb hx

end

theorem State.framesDropped_trunks (k : TrunkNo) (r : BitRate) (g : Granularity) (d : Nat) (s : State) :
    trunkBecomes k ((s.trunks.get k).configured r g d).disabled s (s.framesDropped k r g d) := by
  have htrunks : (s.framesDropped k r g d).trunks = (s.trunkCleared k r g d).trunks :=
    (onlyChanges_foldl _ (fun s i => State.frameEnded_onlyChanges k false i s) _ _).2 .trunks (by decide)
  rw [trunkBecomes, otherTrunksSame, htrunks]
  refine ⟨Table.get_set_self _ k _, fun j hj => (Table.get_set_ne _ hj _).trans (Table.get_set_ne _ hj _)⟩

theorem SiteRecord.trunkDisabled_of_reached {r : SiteRecord} (h : r.onTrunk k = true) (hp : r.phase.probed = true) :
    r.trunkDisabled k = { r with phase := .probing [], m := 0 } := by
  rw [SiteRecord.trunkDisabled, h, hp]
  rfl

theorem SiteRecord.trunkDisabled_of_not_reached {r : SiteRecord} (h : r.onTrunk k = false ∨ r.phase.probed = false) :
    r.trunkDisabled k = r := by
  refine if_neg fun e => ?_
  rw [Bool.and_eq_true] at e
  rcases h with h | h
  · exact Bool.false_ne_true (h.symm.trans e.1)
  · exact Bool.false_ne_true (h.symm.trans e.2)

end

/-- Settles O23: the slots and sites through the dropped frames, the trunk's probed sites (R40), and the conditions of a state
in which they agree with their sources. -/
theorem trunkSetDisables : Obligations.TrunkSetDisables := by
  intro trunk gran rate benchDelay s k hs hk henable hrate hgran
  have hblock := trunkSetBlock_of_operands (enable := 0) (benchDelay := benchDelay) (s := s) hk hrate hgran
  have hsameConfig : ¬((s.trunks.get k).enable = true
      ∧ ((s.trunks.get k).rate ≠ (s.trunks.get k).rate ∨ (s.trunks.get k).gran ≠ (s.trunks.get k).gran)) := by simp
  rw [if_neg hsameConfig, show isYes 0 = false from rfl, State.configureTrunk_of_disabling henable] at hblock
  have honly := trunkSetBlock_onlyChanges s trunk 0 gran rate benchDelay
  have hupdates := trunkSetBlock_updates s trunk 0 gran rate benchDelay
  rw [hblock] at honly hupdates
  have hswept := State.framesDropped_swept k (s.trunks.get k).rate (s.trunks.get k).gran benchDelay.toNat s
  have htrunks := State.framesDropped_trunks k (s.trunks.get k).rate (s.trunks.get k).gran benchDelay.toNat s
  have hleaves := State.framesDropped_leavesOtherCauses k (s.trunks.get k).rate (s.trunks.get k).gran benchDelay.toNat s
  have hslots (i : SlotNo) :=
    State.framesDropped_slots_of_not_mem k (s.trunks.get k).rate (s.trunks.get k).gran benchDelay.toNat s (i := i)
  have honce (i : SlotNo) (b : Batch) (x : Dispatched) (n : Nat) :=
    State.framesDropped_slots_of_once k (s.trunks.get k).rate (s.trunks.get k).gran benchDelay.toNat s (i := i) (b := b) (x := x)
      (n := n)
  generalize s.framesDropped k (s.trunks.get k).rate (s.trunks.get k).gran benchDelay.toNat = u at *
  have hget (i : SiteNo) : (u.mapSites fun _ r => r.trunkDisabled k).sites.get i = (u.sites.get i).trunkDisabled k :=
    Table.get_mapIdx _ _ i
  have hsame := honly.2
  refine ⟨_, answers_of_block (k := .readyOnly) rfl hs hblock honly (hsame .port (by decide))
    (congrArg TimeBase.now (hsame .time (by decide))), htrunks, ?_, fun i ht hp => ?_, fun i hnot => ⟨fun h => ?_, fun h => ?_⟩, ?_,
    fun hagree => conditionsFollow_respond _ ?_, fun i hi => hslots i hi, ?_⟩
  · have hsolver : ((u.mapSites fun _ r => r.trunkDisabled k).markStale).solver =
        { stale := true, running := u.solver.running, latest := u.solver.latest } := rfl
    rw [markedStale, State.respond_solver, hsolver, hswept.running, hswept.latest]
  · have hkept : u.sites.get i = s.sites.get i := hswept.kept i fun h => by
      obtain ⟨⟨hr, -⟩, -⟩ := h
      rcases SiteRecord.state_of_probed hp with e | e | e | e <;> exact nomatch e.symm.trans hr
    exact (hget i).trans (hkept.symm ▸ SiteRecord.trunkDisabled_of_reached ht hp)
  · refine (hget i).trans ?_
    rw [hswept.vacated i h]
    rfl
  · refine (hget i).trans ?_
    rw [hswept.kept i h]
    exact SiteRecord.trunkDisabled_of_not_reached hnot
  · refine hswept.order.trans (List.filter_congr fun j _ => ?_)
    have hvac : ((u.sites.get j).trunkDisabled k).state = .vacant ↔ (u.sites.get j).state = .vacant := by
      refine ⟨SiteRecord.trunkDisabled_vacant, fun hv => ?_⟩
      have hnot : (u.sites.get j).phase.probed = false := by
        by_contra hp
        rcases SiteRecord.state_of_probed (by simpa using hp) with e | e | e | e <;> exact nomatch e.symm.trans hv
      rw [SiteRecord.trunkDisabled_of_not_reached (.inr hnot), hv]
    rw [State.respond_sites, State.markStale_sites, hget, decide_eq_decide.mpr hvac]
  · refine conditionsFollow_of_agree (leavesOtherCauses_trans hleaves ?_)
      (hupdates.keeps (fun _ _ h hc => h.causesAgree hc) hagree) (by decide)
    exact leavesOtherCauses_of_follow (State.mapSites_conditionsFollow (fun _ r => r.trunkDisabled k) u) (by decide)
  · rintro i b x n hcount hb hx y rfl
    exact honce i b x n hcount hb hx

end Sys2Proof.Machine
end

section
/-! Proof of O5: the check, the five trunk frames, and the bits on the line in either direction (R74, R75, R76, R186). -/

namespace Sys2Proof.Machine

/-! ### Two bytes -/

theorem bytesOf_two (v : BitVec 16) : bytesOf 2 v.toNat = [v.extractLsb' 8 8, v.extractLsb' 0 8] := by
  have hhigh : BitVec.ofNat 8 (v.toNat / 256) = v.extractLsb' 8 8 := by
    refine BitVec.eq_of_toNat_eq ?_
    rw [BitVec.extractLsb'_toNat, BitVec.toNat_ofNat, Nat.shiftRight_eq_div_pow]
  have hlow : BitVec.ofNat 8 v.toNat = v.extractLsb' 0 8 := by
    refine BitVec.eq_of_toNat_eq ?_
    rw [BitVec.extractLsb'_toNat, BitVec.toNat_ofNat, Nat.shiftRight_zero]
  simp only [bytesOf, hhigh, hlow, List.nil_append, List.cons_append]

theorem append_eq_iff_extract (h l : Byte) (v : BitVec 16) :
    h ++ l = v ↔ h = v.extractLsb' 8 8 ∧ l = v.extractLsb' 0 8 := by
  constructor
  · rintro rfl
    constructor
    · refine BitVec.eq_of_getLsbD_eq fun i hi => ?_
      rw [BitVec.getLsbD_extractLsb', BitVec.getLsbD_append]
      simp [hi]
    · refine BitVec.eq_of_getLsbD_eq fun i hi => ?_
      rw [BitVec.getLsbD_extractLsb', BitVec.getLsbD_append]
      simp [hi]
  · rintro ⟨rfl, rfl⟩
    refine BitVec.eq_of_getLsbD_eq fun i hi => ?_
    rw [BitVec.getLsbD_append]
    split
    next hlow => simp [hlow]
    next hlow =>
      have h8 : i - 8 < 8 := by omega
      have hi8 : 8 + (i - 8) = i := by omega
      simp [h8, hi8]

theorem checkBytes_eq (body : List Byte) :
    checkBytes body = [(crc16 body).extractLsb' 8 8, (crc16 body).extractLsb' 0 8] := bytesOf_two _

/-! ### The check (R75) -/

/-- One bit entering the register of the check. -/
def crcStep (r : BitVec 16) (bit : Bool) : BitVec 16 := if r.msb = bit then r <<< 1 else (r <<< 1) ^^^ 0x1021#16

/-- Entering a register through the exclusive or is entering its top bit, the rest moving up beside. -/
theorem crcBit_xor (r z : BitVec 16) : crcBit (r ^^^ z) = crcStep r z.msb ^^^ (z <<< 1) := by
  unfold crcBit crcStep
  rw [BitVec.msb_xor, BitVec.shiftLeft_xor_distrib]
  cases r.msb <;> cases z.msb <;> simp [BitVec.xor_assoc, BitVec.xor_comm _ 0x1021#16]

theorem iterate_crcBit (n : Nat) (r z : BitVec 16) :
    crcBit^[n] (r ^^^ z) = ((List.range n).map fun i => z.getMsbD i).foldl crcStep r ^^^ (z <<< n) := by
  induction n generalizing r z with
  | zero => simp
  | succ n ih =>
    have hmsb : (List.range (n + 1)).map (fun i => z.getMsbD i) =
        z.msb :: (List.range n).map fun i => (z <<< 1).getMsbD i := by
      rw [List.range_succ_eq_map, List.map_cons, List.map_map]
      refine congrArg₂ List.cons rfl (List.map_congr_left fun i _ => ?_)
      simp [BitVec.getMsbD_shiftLeft]
    rw [Function.iterate_succ_apply, crcBit_xor, ih, hmsb, List.foldl_cons, ← BitVec.shiftLeft_add, Nat.add_comm 1 n]

theorem crcByte_eq (r : BitVec 16) (b : Byte) :
    crcByte r b = ((List.range 8).map fun i => b.getMsbD i).foldl crcStep r := by
  have hbits : ((List.range 8).map fun i => (b ++ (0 : Byte)).getMsbD i) = (List.range 8).map fun i => b.getMsbD i := by
    refine List.map_congr_left fun i hi => ?_
    have hi8 : i < 8 := List.mem_range.mp hi
    rw [BitVec.getMsbD_append, if_neg (Nat.not_le.mpr hi8)]
  have hzero : (b ++ (0 : Byte)) <<< 8 = 0#16 := by
    refine BitVec.eq_of_getLsbD_eq fun i hi => ?_
    simp only [BitVec.getLsbD_shiftLeft, BitVec.getLsbD_append, BitVec.getLsbD_zero]
    by_cases h8 : i < 8
    · simp [h8]
    · simp [h8, show i - 8 < 8 by omega]
  have hiterate := iterate_crcBit 8 r (b ++ (0 : Byte))
  rw [hbits, hzero, BitVec.xor_zero] at hiterate
  exact hiterate

theorem crc16_eq (bytes : List Byte) :
    crc16 bytes = (bytes.flatMap fun b => (List.range 8).map fun i => b.getMsbD i).foldl crcStep 0xFFFF#16 := by
  unfold crc16
  rw [List.foldl_flatMap]
  exact congrArg (fun f => bytes.foldl f 0xFFFF#16) (funext fun r => funext fun b => crcByte_eq r b)

/-! ### The frames -/

theorem holdBytes_of_fixed {e : HoldEntry} {f : FixedHold} (h : e.fixed = some f) :
    holdBytes e = [BitVec.ofNat 8 e.address, BitVec.ofNat 8 (f.hold / 65536), BitVec.ofNat 8 (f.hold / 256),
      BitVec.ofNat 8 f.hold] := by
  simp [holdBytes, h, bytesOf, Nat.div_div_eq_div_mul]

/-! ### The framer's tests (R76, R77) -/

section
variable {len kind : Byte} {fields : List Byte}

theorem judge_of_bad_length (h : len ≠ 5 ∧ len ≠ 6) (rest : List Byte) :
    judge (len :: rest) = if rest = [] then .bad .badLength else .overrun := by
  simp only [judge, if_pos h]

theorem judge_of_bad_type (hlen : len = 5 ∨ len = 6) (h : ¬((len = 5 ∧ kind = 2) ∨ (len = 6 ∧ kind = 3))) :
    judge (len :: kind :: fields) = if fields = [] then .bad .badType else .overrun := by
  have hl : ¬(len ≠ 5 ∧ len ≠ 6) := fun hn => hlen.elim hn.1 hn.2
  simp only [judge, if_neg hl, if_neg h]

theorem judge_echo_partial (h : fields.length ≠ 6) :
    judge (5 :: 2 :: fields) = if fields.length < 6 then .unfinished else .overrun := by
  have hjudge : judge (5 :: 2 :: fields) = judgeFields 5 2 fields := rfl
  rw [hjudge]
  unfold judgeFields
  rw [if_pos rfl]
  split
  · exact absurd rfl h
  · rfl

theorem judge_echo_whole (a q t1 t0 c1 c0 : Byte) :
    judge [5, 2, a, q, t1, t0, c1, c0] =
      if c1 ++ c0 = crc16 [5, 2, a, q, t1, t0] then .echo a q (t1 ++ t0) else .bad .checkFailure := rfl

theorem judge_notice_partial (h : fields.length ≠ 7) :
    judge (6 :: 3 :: fields) = if fields.length < 7 then .unfinished else .overrun := by
  have hjudge : judge (6 :: 3 :: fields) = judgeFields 6 3 fields := rfl
  rw [hjudge]
  unfold judgeFields
  rw [if_neg (by decide)]
  split
  · exact absurd rfl h
  · rfl

theorem judge_notice_whole (a k d1 d0 q c1 c0 : Byte) :
    judge [6, 3, a, k, d1, d0, q, c1, c0] =
      if c1 ++ c0 = crc16 [6, 3, a, k, d1, d0, q] then .notice a k (d1 ++ d0) q else .bad .checkFailure := rfl

theorem eq_of_length_six (h : fields.length = 6) : ∃ a b c d e f, fields = [a, b, c, d, e, f] := by
  match fields, h with
  | [a, b, c, d, e, f], _ => exact ⟨a, b, c, d, e, f, rfl⟩

theorem eq_of_length_seven (h : fields.length = 7) : ∃ a b c d e f g, fields = [a, b, c, d, e, f, g] := by
  match fields, h with
  | [a, b, c, d, e, f, g], _ => exact ⟨a, b, c, d, e, f, g, rfl⟩

/-- What the framer can make of the bytes after a delimiter. -/
inductive Judged : List Byte → Received → Prop
  | none : Judged [] .unfinished
  | badLength (len : Byte) (h : len ≠ 5 ∧ len ≠ 6) : Judged [len] (.bad .badLength)
  | pastBadLength (len : Byte) (rest : List Byte) (h : len ≠ 5 ∧ len ≠ 6) (hr : rest ≠ []) : Judged (len :: rest) .overrun
  | length (len : Byte) (h : len = 5 ∨ len = 6) : Judged [len] .unfinished
  | badType (len kind : Byte) (hl : len = 5 ∨ len = 6) (h : ¬((len = 5 ∧ kind = 2) ∨ (len = 6 ∧ kind = 3))) :
    Judged [len, kind] (.bad .badType)
  | pastBadType (len kind : Byte) (fields : List Byte) (hl : len = 5 ∨ len = 6)
    (h : ¬((len = 5 ∧ kind = 2) ∨ (len = 6 ∧ kind = 3))) (hf : fields ≠ []) : Judged (len :: kind :: fields) .overrun
  | echoPart (fields : List Byte) (h : fields.length < 6) : Judged (5 :: 2 :: fields) .unfinished
  | echo (a q t1 t0 c1 c0 : Byte) (h : c1 ++ c0 = crc16 [5, 2, a, q, t1, t0]) :
    Judged [5, 2, a, q, t1, t0, c1, c0] (.echo a q (t1 ++ t0))
  | echoFails (a q t1 t0 c1 c0 : Byte) (h : c1 ++ c0 ≠ crc16 [5, 2, a, q, t1, t0]) :
    Judged [5, 2, a, q, t1, t0, c1, c0] (.bad .checkFailure)
  | pastEcho (fields : List Byte) (h : 6 < fields.length) : Judged (5 :: 2 :: fields) .overrun
  | noticePart (fields : List Byte) (h : fields.length < 7) : Judged (6 :: 3 :: fields) .unfinished
  | notice (a k d1 d0 q c1 c0 : Byte) (h : c1 ++ c0 = crc16 [6, 3, a, k, d1, d0, q]) :
    Judged [6, 3, a, k, d1, d0, q, c1, c0] (.notice a k (d1 ++ d0) q)
  | noticeFails (a k d1 d0 q c1 c0 : Byte) (h : c1 ++ c0 ≠ crc16 [6, 3, a, k, d1, d0, q]) :
    Judged [6, 3, a, k, d1, d0, q, c1, c0] (.bad .checkFailure)
  | pastNotice (fields : List Byte) (h : 7 < fields.length) : Judged (6 :: 3 :: fields) .overrun

theorem judge_echo_judged (fields : List Byte) : Judged (5 :: 2 :: fields) (judge (5 :: 2 :: fields)) := by
  rcases Nat.lt_trichotomy fields.length 6 with h | h | h
  · rw [judge_echo_partial h.ne, if_pos h]
    exact .echoPart fields h
  · obtain ⟨a, q, t1, t0, c1, c0, rfl⟩ := eq_of_length_six h
    rw [judge_echo_whole]
    split
    next hcrc => exact .echo a q t1 t0 c1 c0 hcrc
    next hcrc => exact .echoFails a q t1 t0 c1 c0 hcrc
  · rw [judge_echo_partial h.ne', if_neg (Nat.not_lt.mpr h.le)]
    exact .pastEcho fields h

theorem judge_notice_judged (fields : List Byte) : Judged (6 :: 3 :: fields) (judge (6 :: 3 :: fields)) := by
  rcases Nat.lt_trichotomy fields.length 7 with h | h | h
  · rw [judge_notice_partial h.ne, if_pos h]
    exact .noticePart fields h
  · obtain ⟨a, k, d1, d0, q, c1, c0, rfl⟩ := eq_of_length_seven h
    rw [judge_notice_whole]
    split
    next hcrc => exact .notice a k d1 d0 q c1 c0 hcrc
    next hcrc => exact .noticeFails a k d1 d0 q c1 c0 hcrc
  · rw [judge_notice_partial h.ne', if_neg (Nat.not_lt.mpr h.le)]
    exact .pastNotice fields h

/-- Every list of bytes is judged as one of these cases. -/
theorem judge_judged (bytes : List Byte) : Judged bytes (judge bytes) := by
  match bytes with
  | [] => exact .none
  | len :: rest =>
    by_cases hbad : len ≠ 5 ∧ len ≠ 6
    · rw [judge_of_bad_length hbad]
      split
      next hr =>
        subst hr
        exact .badLength len hbad
      next hr => exact .pastBadLength len rest hbad hr
    have hlen : len = 5 ∨ len = 6 := by
      by_contra hn
      exact hbad (not_or.mp hn)
    match rest with
    | [] =>
      have hjudge : judge [len] = .unfinished := by simp only [judge, if_neg hbad]
      rw [hjudge]
      exact .length len hlen
    | kind :: fields =>
      by_cases hpair : (len = 5 ∧ kind = 2) ∨ (len = 6 ∧ kind = 3)
      · rcases hpair with ⟨rfl, rfl⟩ | ⟨rfl, rfl⟩
        · exact judge_echo_judged fields
        · exact judge_notice_judged fields
      · rw [judge_of_bad_type hlen hpair]
        split
        next hf =>
          subst hf
          exact .badType len kind hlen hpair
        next hf => exact .pastBadType len kind fields hlen hpair hf

end

theorem echoBytes_eq (address seq : Byte) (turnaround : BitVec 16) :
    echoBytes address seq turnaround =
      [5, 2, address, seq, turnaround.extractLsb' 8 8, turnaround.extractLsb' 0 8,
        (crc16 [5, 2, address, seq, turnaround.extractLsb' 8 8, turnaround.extractLsb' 0 8]).extractLsb' 8 8,
        (crc16 [5, 2, address, seq, turnaround.extractLsb' 8 8, turnaround.extractLsb' 0 8]).extractLsb' 0 8] := by
  simp [echoBytes, bytesOf_two, checkBytes_eq]

theorem noticeBytes_eq (address kind seq : Byte) (detail : BitVec 16) :
    noticeBytes address kind detail seq =
      [6, 3, address, kind, detail.extractLsb' 8 8, detail.extractLsb' 0 8, seq,
        (crc16 [6, 3, address, kind, detail.extractLsb' 8 8, detail.extractLsb' 0 8, seq]).extractLsb' 8 8,
        (crc16 [6, 3, address, kind, detail.extractLsb' 8 8, detail.extractLsb' 0 8, seq]).extractLsb' 0 8] := by
  simp [noticeBytes, bytesOf_two, checkBytes_eq]

/-- Two bytes are those of the number they spell. -/
theorem extract_append (h l : Byte) : (h ++ l).extractLsb' 8 8 = h ∧ (h ++ l).extractLsb' 0 8 = l := by
  obtain ⟨hh, hl⟩ := (append_eq_iff_extract h l (h ++ l)).mp rfl
  exact ⟨hh.symm, hl.symm⟩

theorem append_extract (v : BitVec 16) : v.extractLsb' 8 8 ++ v.extractLsb' 0 8 = v :=
  (append_eq_iff_extract _ _ v).mpr ⟨rfl, rfl⟩

/-- The framer takes an ECHO exactly from the bytes of its contents (R76, R77). -/
theorem judge_eq_echo_iff (bytes : List Byte) (address seq : Byte) (turnaround : BitVec 16) :
    judge bytes = .echo address seq turnaround ↔ bytes = echoBytes address seq turnaround := by
  constructor
  · intro h
    have hjudged := judge_judged bytes
    rw [h] at hjudged
    cases hjudged with
    | echo a q t1 t0 c1 c0 hcrc =>
      obtain ⟨hhigh, hlow⟩ := extract_append t1 t0
      obtain ⟨hc1, hc0⟩ := (append_eq_iff_extract c1 c0 _).mp hcrc
      rw [echoBytes_eq, hhigh, hlow, ← hc1, ← hc0]
  · rintro rfl
    rw [echoBytes_eq, judge_echo_whole, if_pos (append_extract _), append_extract]

/-- The framer takes a NOTICE exactly from the bytes of its contents (R76, R77). -/
theorem judge_eq_notice_iff (bytes : List Byte) (address kind seq : Byte) (detail : BitVec 16) :
    judge bytes = .notice address kind detail seq ↔ bytes = noticeBytes address kind detail seq := by
  constructor
  · intro h
    have hjudged := judge_judged bytes
    rw [h] at hjudged
    cases hjudged with
    | notice a k d1 d0 q c1 c0 hcrc =>
      obtain ⟨hhigh, hlow⟩ := extract_append d1 d0
      obtain ⟨hc1, hc0⟩ := (append_eq_iff_extract c1 c0 _).mp hcrc
      rw [noticeBytes_eq, hhigh, hlow, ← hc1, ← hc0]
  · rintro rfl
    rw [noticeBytes_eq, judge_notice_whole, if_pos (append_extract _), append_extract]

/-! ### The line -/

theorem ofLineBits_byte (b : Byte) :
    lineBytes.ofLineBits [b.getLsbD 0, b.getLsbD 1, b.getLsbD 2, b.getLsbD 3, b.getLsbD 4, b.getLsbD 5, b.getLsbD 6,
      b.getLsbD 7] = b := by
  revert b
  decide

theorem lineBytes_of_few {rest ticks : Nat} {line : List (Bool × Nat)} (h : line.length < 8) :
    lineBytes rest ((false, ticks) :: line) = [] := by
  match line, h with
  | [], _ => rfl
  | [_], _ => rfl
  | [_, _], _ => rfl
  | [_, _, _], _ => rfl
  | [_, _, _, _], _ => rfl
  | [_, _, _, _, _], _ => rfl
  | [_, _, _, _, _, _], _ => rfl
  | [_, _, _, _, _, _, _], _ => rfl

theorem length_byteBits (b : Byte) : (byteBits b).length = 10 := rfl

/-- The bit of a frame at a place of the line (R74). -/
theorem frameBits_getD (frame : List Byte) (j : Nat) :
    (frameBits frame).getD j true =
      if j < 10 * frame.length then (byteBits (frame.getD (j / 10) 0)).getD (j % 10) true else true := by
  induction frame generalizing j with
  | nil => simp [frameBits]
  | cons b rest ih =>
    have hcons : frameBits (b :: rest) = byteBits b ++ frameBits rest := List.flatMap_cons
    rw [hcons]
    rcases Nat.lt_or_ge j 10 with h | h
    · rw [List.getD_append _ _ _ _ (by rwa [length_byteBits]), if_pos (by simp only [List.length_cons]; omega),
        Nat.div_eq_of_lt h, Nat.mod_eq_of_lt h]
      rfl
    · obtain ⟨i, rfl⟩ := Nat.exists_eq_add_of_le h
      rw [List.getD_append_right _ _ _ _ (by rw [length_byteBits]; omega), length_byteBits, Nat.add_sub_cancel_left, ih]
      have hdiv : (10 + i) / 10 = i / 10 + 1 := by omega
      have hmod : (10 + i) % 10 = i % 10 := by omega
      rw [hdiv, hmod, List.getD_cons_succ]
      refine if_congr ?_ rfl rfl
      simp only [List.length_cons]
      omega

theorem LineByte.isWhole_iff (x : LineByte) : x.isWhole = true ↔ x.stop = some true ∧ x.rest ≤ 20 := by
  simp [LineByte.isWhole, LineByte.follows]

theorem frameBytes?_eq_some_iff {bits : List Bool} {bytes : List Byte} :
    frameBytes? bits = some bytes ↔
      (∀ x ∈ lineBytes 0 (bits.map fun b => (b, 0)), x.stop = some true ∧ x.rest ≤ 20)
        ∧ bytes = (lineBytes 0 (bits.map fun b => (b, 0))).map LineByte.value := by
  simp only [frameBytes?, Option.ite_none_right_eq_some, Option.some.injEq, List.all_eq_true, LineByte.isWhole_iff]
  exact and_congr Iff.rfl eq_comm

theorem openFrameBytes?_eq_some_iff {bits : List Bool} {bytes : List Byte} :
    openFrameBytes? bits = some bytes ↔
      ∃ before x, lineBytes 0 (bits.map fun b => (b, 0)) = before ++ [x] ∧ x.stop = none ∧ x.rest ≤ 20
        ∧ (∀ y ∈ before, y.stop = some true ∧ y.rest ≤ 20)
        ∧ bytes = (lineBytes 0 (bits.map fun b => (b, 0))).map LineByte.value := by
  unfold openFrameBytes?
  dsimp only
  generalize lineBytes 0 (bits.map fun b => (b, 0)) = seen
  rcases List.eq_nil_or_concat seen with rfl | ⟨before, x, rfl⟩
  · simp
  · have hfollows : x.follows = true ↔ x.rest ≤ 20 := decide_eq_true_iff
    rw [List.concat_eq_append, List.getLast?_concat, List.dropLast_concat]
    simp only [Option.ite_none_right_eq_some, Option.some.injEq, List.all_eq_true, LineByte.isWhole_iff, hfollows]
    constructor
    · rintro ⟨⟨hstop, hrest, hwhole⟩, rfl⟩
      exact ⟨before, x, rfl, hstop, hrest, hwhole, rfl⟩
    · rintro ⟨before', x', heq, hstop, hrest, hwhole, rfl⟩
      obtain ⟨rfl, hx⟩ := List.append_inj' heq rfl
      obtain rfl : x = x' := List.head_eq_of_cons_eq hx
      exact ⟨⟨hstop, hrest, hwhole⟩, rfl⟩

/-- Settles O5: each clause by the lemma that says it. -/
theorem takenFramesAreTheirBytes : Obligations.TakenFramesAreTheirBytes := by
  refine ⟨crc16_eq, fun body => ?_, fun address seq => rfl, fun address seq t => ?_, fun address kind seq detail => ?_,
    fun address seq => ⟨rfl, rfl, rfl⟩, fun tag entries payload hfixed => ?_, fun b => rfl, fun rest b stop ticks line => ?_,
    ?_, fun k s h => ?_, fun k s x j hmode htx hlow hhigh => ?_, judge_eq_echo_iff, judge_eq_notice_iff⟩
  · rw [sealFrame, checkBytes_eq]
  · simp [echoBytes, sealFrame, bytesOf_two]
  · simp [noticeBytes, sealFrame, bytesOf_two]
  · have hholds : (entries.map Prod.fst).flatMap holdBytes = entries.flatMap fun e =>
        [BitVec.ofNat 8 e.1.address, BitVec.ofNat 8 (e.2.hold / 65536), BitVec.ofNat 8 (e.2.hold / 256),
          BitVec.ofNat 8 e.2.hold] := by
      rw [List.flatMap_map]
      exact List.flatMap_congr fun e he => holdBytes_of_fixed (hfixed e he)
    rw [batchFrame, hholds, List.length_map]
  · refine ⟨rfl, ?_, ?_, fun h => ⟨lineBytes_of_few h, rfl⟩⟩
    · exact congrArg (fun v => ({ rest := rest, start := ticks 0, value := v, stop := some stop } : LineByte) :: lineBytes 0 line)
        (ofLineBits_byte b)
    · exact congrArg (fun v => [({ rest := rest, start := ticks 0, value := v, stop := none } : LineByte)]) (ofLineBits_byte b)
  · rintro bits seen bytes rfl
    exact ⟨frameBytes?_eq_some_iff, openFrameBytes?_eq_some_iff⟩
  · rcases h with h | h <;> simp [State.txd, h]
  · have hplace : (s.time.rawCount - x.startRaw).toNat * (s.trunks.get k).rate.bps / 40000000 = j :=
      Nat.div_eq_of_lt_le (by omega) (by omega)
    have htxd : s.txd k = lineLevel (s.trunks.get k).rate x.frame x.startRaw s.time.rawCount := by
      simp only [State.txd, hmode, htx]
    rw [htxd, lineLevel, show Config.oscillatorHz = 40000000 from rfl, hplace, frameBits_getD]

end Sys2Proof.Machine
end

section
/-! Proofs of the tracker's statements O51, O52 and O53: acquisition, jump candidates and re-seating, misses and holdover. -/

namespace Sys2Proof.Machine

/-! ### Lists of fixed capacity and their span -/

/-- What a list of fixed capacity keeps after an entry joined: the latest. -/
theorem pushBounded_eq_drop {capacity : Nat} {l : List Nat} (y : Nat) (h : l.length ≤ capacity) :
    pushBounded capacity l y = (l ++ [y]).drop ((l ++ [y]).length - capacity) := by
  unfold pushBounded
  split
  next hover =>
    congr 1
    simp only [List.length_append, List.length_singleton] at hover ⊢
    omega
  next hfits => rw [Nat.sub_eq_zero_of_le (Nat.not_lt.mp hfits), List.drop_zero]

theorem foldl_max_bound (l : List Nat) (a : Nat) : (∀ b ∈ a :: l, b ≤ l.foldl max a) ∧ l.foldl max a ∈ a :: l := by
  induction l generalizing a with
  | nil => simp
  | cons x l ih =>
    obtain ⟨hle, hmem⟩ := ih (max a x)
    refine ⟨fun b hb => ?_, ?_⟩
    · have hmax := hle _ List.mem_cons_self
      rcases List.mem_cons.mp hb with rfl | hb
      · exact (le_max_left _ _).trans hmax
      rcases List.mem_cons.mp hb with rfl | hb
      · exact (le_max_right _ _).trans hmax
      · exact hle b (List.mem_cons_of_mem _ hb)
    · rcases List.mem_cons.mp hmem with h | h
      · rcases max_choice a x with hc | hc <;> rw [List.foldl_cons, h, hc] <;> simp
      · exact List.mem_cons_of_mem _ (List.mem_cons_of_mem _ h)

theorem foldl_min_bound (l : List Nat) (a : Nat) : (∀ b ∈ a :: l, l.foldl min a ≤ b) ∧ l.foldl min a ∈ a :: l := by
  induction l generalizing a with
  | nil => simp
  | cons x l ih =>
    obtain ⟨hle, hmem⟩ := ih (min a x)
    refine ⟨fun b hb => ?_, ?_⟩
    · have hmin := hle _ List.mem_cons_self
      rcases List.mem_cons.mp hb with rfl | hb
      · exact hmin.trans (min_le_left _ _)
      rcases List.mem_cons.mp hb with rfl | hb
      · exact hmin.trans (min_le_right _ _)
      · exact hle b (List.mem_cons_of_mem _ hb)
    · rcases List.mem_cons.mp hmem with h | h
      · rcases min_choice a x with hc | hc <;> rw [List.foldl_cons, h, hc] <;> simp
      · exact List.mem_cons_of_mem _ (List.mem_cons_of_mem _ h)

theorem le_largest {l : List Nat} {b : Nat} (h : b ∈ l) : b ≤ largest l :=
  (foldl_max_bound l 0).1 b (List.mem_cons_of_mem _ h)

theorem largest_mem {l : List Nat} (h : l ≠ []) : largest l ∈ l := by
  rcases List.mem_cons.mp (foldl_max_bound l 0).2 with h0 | hmem
  · obtain ⟨x, hx⟩ := List.exists_mem_of_ne_nil l h
    have hle : x ≤ largest l := le_largest hx
    have hzero : largest l = 0 := h0
    have hx0 : x = largest l := by omega
    exact hx0 ▸ hx
  · exact hmem

theorem smallest_le {l : List Nat} {b : Nat} (h : b ∈ l) : smallest l ≤ b :=
  (foldl_min_bound l (largest l)).1 b (List.mem_cons_of_mem _ h)

theorem smallest_mem {l : List Nat} (h : l ≠ []) : smallest l ∈ l := by
  rcases List.mem_cons.mp (foldl_min_bound l (largest l)).2 with heq | hmem
  · exact (show smallest l = largest l from heq) ▸ largest_mem h
  · exact hmem

/-- The span is within a limit exactly when any two entries are within it of one another. -/
theorem span_le_iff {l : List Nat} {limit : Nat} (h : l ≠ []) :
    span l ≤ limit ↔ ∀ a ∈ l, ∀ b ∈ l, b ≤ a + limit := by
  unfold span
  constructor
  · intro hspan a ha b hb
    have hhigh := le_largest hb
    have hlow := smallest_le ha
    omega
  · intro hall
    have hmax := hall _ (smallest_mem h) _ (largest_mem h)
    omega

/-- A list completes nothing while it is too short or two of its entries lie too far apart. -/
theorem not_complete {n limit : Nat} {l : List Nat}
    (h : l.length < n ∨ ∃ a ∈ l, ∃ b ∈ l, a + limit < b) : ¬(l.length = n ∧ span l ≤ limit) := by
  rintro ⟨hlen, hspan⟩
  rcases h with h | ⟨a, ha, b, hb, hlt⟩
  · omega
  · have hle := (span_le_iff (List.ne_nil_of_mem ha)).mp hspan a ha b hb
    omega

theorem complete {n limit : Nat} {l : List Nat} (hlen : l.length = n) (hn : 0 < n)
    (h : ∀ a ∈ l, ∀ b ∈ l, b ≤ a + limit) : l.length = n ∧ span l ≤ limit :=
  ⟨hlen, (span_le_iff (List.ne_nil_of_length_pos (hlen ▸ hn))).mpr h⟩

/-! ### Acquisition (R46–R48) -/

section
variable {p : Params} {r : SiteRecord} {list : List Nat} {y : Nat} {again : List Nat → SitePhase}

theorem acquire_of_incomplete
    (h : ¬((pushBounded 4 list y).length = 4 ∧ span (pushBounded 4 list y) ≤ p.jumpLimit)) :
    acquire p again list y r =
      { record := { r with phase := again (pushBounded 4 list y), m := 0 }, completed := false, reseated := false } := by
  simp only [acquire, if_neg h]

/-- The record that a completed acquisition hands to the SUSPECT test: the drift rule finds d and the reported delay equal. -/
def SiteRecord.acquired (samples : List Nat) (r : SiteRecord) : SiteRecord :=
  { r with
    phase := .aligned []
    est := some { d := (samples.sum + 2) / 4, reported := (samples.sum + 2) / 4 }
    s := min 65535 (deviationSum ((samples.sum + 2) / 4) samples / 4), m := 0, drift := false }

theorem driftRule_of_reported (threshold d : Nat) : driftRule threshold (some { d := d, reported := d }) = false := by
  simp [driftRule]

theorem acquire_of_complete
    (h : (pushBounded 4 list y).length = 4 ∧ span (pushBounded 4 list y) ≤ p.jumpLimit) :
    acquire p again list y r =
      { record := (r.acquired (pushBounded 4 list y)).suspectTest p.growth p.ceiling, completed := true, reseated := false } := by
  simp only [acquire, if_pos h, driftRule_of_reported]
  rfl

/-- A sample in PROBING or SUSPECT is one of acquisition (R67). -/
theorem applySample_of_acquiring (h : r.phase = .probing list ∨ r.phase = .suspect list) :
    applySample p y r = acquire p (if r.state = .probing then .probing else .suspect) list y r := by
  rcases h with h | h <;> simp [applySample, SiteRecord.state, SitePhase.state, h]

theorem SiteRecord.planView_of_phase {growth m : Nat} {ph : SitePhase} (hstate : ph.state = r.state)
    (hu : ({ r with phase := ph, m := m } : SiteRecord).u growth = r.u growth) :
    ({ r with phase := ph, m := m } : SiteRecord).planView growth = r.planView growth := by
  unfold SiteRecord.planView
  rw [hu]
  exact congrArg (fun st => PlanView.mk st _ _ _ _ _) hstate

end

/-- Settles O51, by whether the list with the sample in it completes (R47). -/
theorem acquisitionCompletes : Obligations.AcquisitionCompletes := by
  intro p r list y samples hphase hlen hsamples
  obtain rfl : pushBounded 4 list y = samples := (pushBounded_eq_drop y hlen).trans hsamples.symm
  rw [applySample_of_acquiring hphase]
  refine ⟨fun hwait => ?_, fun hfour hclose => ?_⟩
  · rw [acquire_of_incomplete (not_complete hwait)]
    refine ⟨?_, rfl, rfl, ?_⟩
    · rcases hphase with h | h <;> simp [SiteRecord.state, SitePhase.state, h]
    · rcases hphase with h | h <;>
        exact SiteRecord.planView_of_phase (by simp [SiteRecord.state, SitePhase.state, h])
          (by simp [SiteRecord.state, SitePhase.state, SiteRecord.u, h])
  · rw [acquire_of_complete (complete hfour (by decide) hclose)]
    exact ⟨_, _, _, rfl, rfl, rfl, SiteRecord.suspectTest_of_aligned (r := r.acquired _) p.growth p.ceiling (list := []) rfl,
      rfl, rfl⟩

/-! ### Jump candidates (R54–R56) -/

section
variable {p : Params} {r : SiteRecord} {e : Estimate} {list : List Nat} {h y : Nat} {again : List Nat → SitePhase}

theorem jumpCandidate_of_incomplete
    (hwait : ¬((pushBounded 3 list y).length = 3 ∧ span (pushBounded 3 list y) ≤ p.jumpLimit)) :
    jumpCandidate p again list y r =
      { record := SiteRecord.suspectTest p.growth p.ceiling { r with phase := again (pushBounded 3 list y), m := 0 }
        completed := false, reseated := false } := by
  simp only [jumpCandidate, if_neg hwait]

theorem jumpCandidate_of_complete (he : r.est = some e)
    (hdone : (pushBounded 3 list y).length = 3 ∧ span (pushBounded 3 list y) ≤ p.jumpLimit) :
    jumpCandidate p again list y r =
      { record := (r.seated p.driftThreshold
          { d := ((pushBounded 3 list y).sum + 1) / 3, reported := e.reported }
          (min 65535 (deviationSum (((pushBounded 3 list y).sum + 1) / 3) (pushBounded 3 list y) / 3))).suspectTest
            p.growth p.ceiling
        completed := false, reseated := true } := by
  simp only [jumpCandidate, if_pos hdone, movedEstimate, he, Option.map_some, Option.getD_some]
  rfl

/-- In ALIGNED and in HOLDOVER a sample beyond J of d is a jump candidate (R50). -/
theorem applySample_of_jump (hp : r.phase = .aligned list ∨ r.phase = .holdover list h)
    (hj : p.jumpLimit < ((y : Int) - r.d).natAbs) :
    applySample p y r =
      jumpCandidate p (fun l => if r.state = .aligned then .aligned l else .holdover l r.h) list y r := by
  rcases hp with hp | hp <;>
    simp [applySample, trackSample, SiteRecord.state, SitePhase.state, SiteRecord.h, hp, Nat.not_le.mpr hj]

end

/-- Settles O52, by whether the list with the candidate in it re-seats (R55). -/
theorem jumpCandidatesReseat : Obligations.JumpCandidatesReseat := by
  intro p r e list h y candidates hphase hlen he hj hbound hcandidates
  obtain rfl : pushBounded 3 list y = candidates := (pushBounded_eq_drop y hlen).trans hcandidates.symm
  rw [applySample_of_jump hphase (by rwa [SiteRecord.d_of_est he])]
  refine ⟨fun hwait => ?_, fun hthree hclose => ?_⟩
  · -- the list alone changes, and u with it does not: the SUSPECT test leaves the record
    obtain ⟨ph, hph⟩ : ∃ ph : SitePhase, (if r.state = .aligned then .aligned (pushBounded 3 list y)
        else .holdover (pushBounded 3 list y) r.h) = ph := ⟨_, rfl⟩
    have hu : ({ r with phase := ph, m := 0 } : SiteRecord).u p.growth = r.u p.growth := by
      subst hph
      rcases hphase with h | h <;> simp [SiteRecord.state, SitePhase.state, SiteRecord.u, SiteRecord.h, h]
    have hstate : ph.state = r.state := by
      subst hph
      rcases hphase with h | h <;> simp [SiteRecord.state, SitePhase.state, h]
    have htest : SiteRecord.suspectTest p.growth p.ceiling { r with phase := ph, m := 0 } = { r with phase := ph, m := 0 } :=
      SiteRecord.suspectTest_of_bounded fun u h => hbound u (hu ▸ h)
    rw [jumpCandidate_of_incomplete (not_complete hwait), hph, htest]
    exact ⟨rfl, rfl, rfl, SiteRecord.planView_of_phase hstate hu⟩
  · rw [jumpCandidate_of_complete he (complete hthree (by decide) hclose)]
    exact ⟨_, _, _, rfl, rfl, rfl, SiteRecord.suspectTest_of_aligned (r := r.seated p.driftThreshold _ _) p.growth p.ceiling (list := []) rfl,
      rfl, rfl⟩

/-! ### Misses (R49, R57, R58) -/

section
variable {p : Params} {r : SiteRecord} {list : List Nat} {h : Nat}

theorem applyMiss_of_acquiring (hs : r.state = .probing ∨ r.state = .suspect) :
    applyMiss p r = { r with m := min 3 (r.m + 1) } := by
  unfold applyMiss
  unfold SiteRecord.state at hs
  split
  next => rfl
  next => rfl
  all_goals simp_all [SitePhase.state]

/-- A miss in ALIGNED leaves u as it was, whether or not it is the third. -/
theorem applyMiss_of_aligned (hp : r.phase = .aligned list) (hbound : ∀ u, r.u p.growth = some u → u ≤ p.ceiling) :
    applyMiss p r =
      { r with phase := if 3 ≤ min 3 (r.m + 1) then .holdover list 0 else .aligned list, m := min 3 (r.m + 1) } := by
  have hs : r.s ≤ p.ceiling := hbound r.s (by simp only [SiteRecord.u, hp])
  simp only [applyMiss, hp]
  refine SiteRecord.suspectTest_of_bounded fun u hu => ?_
  split at hu
  next => simpa [SiteRecord.u] using (Option.some.inj hu) ▸ hs
  next => exact (Option.some.inj hu) ▸ hs

theorem applyMiss_of_holdover {h' : Nat} (hp : r.phase = .holdover list h) (hh : h' = min 65535 (h + 1)) :
    applyMiss p r =
      { r with
        m := min 3 (r.m + 1), phase := if p.ceiling < r.s + p.growth * h' then .suspect [] else .holdover list h' } := by
  subst hh
  simp only [applyMiss, hp, SiteRecord.suspectTest, SiteRecord.u]
  split
  next => rfl
  next => rfl

end

/-- Settles O53, by the state the miss meets (R67). -/
theorem missesLeadToHoldover : Obligations.MissesLeadToHoldover := by
  intro p r hbound
  refine ⟨fun hs => ?_, fun list hp hm => ?_, fun list hp hm => ?_, fun list h h' hp hh => ?_⟩
  · rw [applyMiss_of_acquiring hs]
    exact ⟨rfl, rfl⟩
  · have hmin : min 3 (r.m + 1) = r.m + 1 := by omega
    have hkept : ({ r with m := r.m + 1 } : SiteRecord) = { r with phase := .aligned list, m := r.m + 1 } := by rw [← hp]
    rw [applyMiss_of_aligned hp hbound, hmin, if_neg (by omega), ← hkept]
    exact ⟨rfl, rfl⟩
  · have hthree : min 3 (r.m + 1) = 3 := by omega
    rw [applyMiss_of_aligned hp hbound, hthree, if_pos le_rfl]
    refine ⟨rfl, fun hview => ?_⟩
    have hstate : SiteState.holdover = r.state := congrArg PlanView.state hview
    rw [SiteRecord.state, hp] at hstate
    cases hstate
  · rw [applyMiss_of_holdover hp hh]
    refine ⟨rfl, not_congr ?_⟩
    have hu : r.s + p.growth * h ≤ p.ceiling := hbound _ (by simp only [SiteRecord.u, hp])
    by_cases hover : p.ceiling < r.s + p.growth * h'
    · -- u has risen above U, so it has changed, and so has the state
      rw [if_pos hover]
      refine iff_of_false (fun hview => ?_) (by omega)
      have hstate : SiteState.suspect = r.state := congrArg PlanView.state hview
      rw [SiteRecord.state, hp] at hstate
      cases hstate
    · rw [if_neg hover]
      simp [SiteRecord.planView, SiteRecord.state, SitePhase.state, SiteRecord.u, hp]

end Sys2Proof.Machine
end

section
/-! Proofs of the trunks' probing statements O40 and O41 and of the bench delivery O47: the choice in turn (R83), the start of a
probe frame (R84, R85) and the bench responder (R190). -/

namespace Sys2Proof.Machine

/-! ### Rows that act on one trunk alone -/

section
variable {c : Instr} {k : TrunkNo} {x y : Trunk} {s t u : State}

/-- A row that writes one trunk controller and nothing else. -/
theorem completes_putTrunk (h : exec c s = .next (s.putTrunk k x)) :
    ∃ t, completes c [.trunks] s t ∧ trunkBecomes k x s t :=
  ⟨_, ⟨h, State.putTrunk_onlyChanges k x s⟩, State.putTrunk_trunkBecomes k x s⟩

theorem trunkBecomes_trans (h : trunkBecomes k x s t) (h' : trunkBecomes k y t u) : trunkBecomes k y s u :=
  ⟨h'.1, fun j hj => (h'.2 j hj).trans (h.2 j hj)⟩

theorem trunkBecomes_of_same (h : trunkBecomes k x s t) (h' : u.trunks = t.trunks) : trunkBecomes k x s u := by
  unfold trunkBecomes otherTrunksSame
  rw [h']
  exact h

/-- What a trunk does with its frames leaves who is probe-eligible. -/
theorem State.putTrunk_probeEligible (h : x.enable = (s.trunks.get k).enable) (i : SiteNo) :
    (s.putTrunk k x).probeEligible i = s.probeEligible i := by
  have henable (j : TrunkNo) : ((s.putTrunk k x).trunks.get j).enable = (s.trunks.get j).enable := by
    rw [State.putTrunk_trunks, Table.get_set]
    split
    next e => rw [e, h]
    · rfl
  simp only [State.probeEligible, henable]
  rfl

theorem State.putTrunk_stillThere (h : x.enable = (s.trunks.get k).enable) (o : Outstanding) :
    (s.putTrunk k x).stillThere o = s.stillThere o := by
  simp only [State.stillThere, State.putTrunk_probeEligible h]
  rfl

end

/-! ### The choice in turn (R83) -/

/-- The first number of a search is the smallest that is found. -/
theorem find?_finRange_eq_some_iff {n : Nat} {p : Fin n → Bool} {i : Fin n} :
    (List.finRange n).find? p = some i ↔ p i = true ∧ ∀ j, p j = true → i ≤ j := by
  rw [List.find?_eq_some_iff_getElem]
  refine and_congr Iff.rfl ⟨?_, fun h => ?_⟩
  · rintro ⟨m, hm, rfl, hfirst⟩ j hj
    by_contra hlt
    have hjm : j.val < m := by simpa [Fin.lt_def] using hlt
    have hnot := hfirst j.val hjm
    simp [hj] at hnot
  · refine ⟨i.val, by simp, by simp, fun j hj => ?_⟩
    have hjn : j < n := hj.trans i.isLt
    by_contra hp
    have hle := h ⟨j, hjn⟩ (by simpa using hp)
    exact absurd hle (by simpa [Fin.le_def] using hj)

/-- The site's number lies above the last site probed on the trunk, where one was. -/
def State.aboveLast (s : State) (k : TrunkNo) (i : SiteNo) : Bool := (s.trunks.get k).lastProbed.all fun l => decide (l < i)

section
variable {k : TrunkNo} {i : SiteNo} {s : State}

theorem State.aboveLast_iff : s.aboveLast k i = true ↔ ∀ l, (s.trunks.get k).lastProbed = some l → l < i := by
  unfold State.aboveLast
  cases (s.trunks.get k).lastProbed <;> simp

theorem State.chooseProbe_eq (s : State) (k : TrunkNo) :
    s.chooseProbe k = ((List.finRange 64).find? fun i => s.eligibleOn k i && s.aboveLast k i).or
      ((List.finRange 64).find? fun i => s.eligibleOn k i) := by
  unfold State.chooseProbe State.aboveLast
  cases (s.trunks.get k).lastProbed with
  | none => simp [List.head?_filter]
  | some l => simp [List.head?_filter, List.filter_filter, Bool.and_comm]

/-- The choice is the next site in turn. -/
theorem State.chooseProbe_eq_some_iff : s.chooseProbe k = some i ↔ s.nextInTurn k i := by
  have habove : ((List.finRange 64).find? fun i => s.eligibleOn k i && s.aboveLast k i) = some i
      ↔ s.eligibleOn k i = true ∧ (∀ l, (s.trunks.get k).lastProbed = some l → l < i)
        ∧ ∀ j, s.eligibleOn k j = true → (∀ l, (s.trunks.get k).lastProbed = some l → l < j) → i ≤ j := by
    simp only [find?_finRange_eq_some_iff, Bool.and_eq_true, State.aboveLast_iff, and_assoc, and_imp]
  have hnone : ((List.finRange 64).find? fun i => s.eligibleOn k i && s.aboveLast k i) = none
      ↔ ∀ j, s.eligibleOn k j = true → ∃ l, (s.trunks.get k).lastProbed = some l ∧ j ≤ l := by
    simp only [List.find?_eq_none, List.mem_finRange, forall_const, Bool.and_eq_true, State.aboveLast_iff, not_and,
      not_forall, Fin.not_lt, exists_prop]
  rw [State.chooseProbe_eq, Option.or_eq_some_iff, habove, hnone, find?_finRange_eq_some_iff, State.nextInTurn]
  constructor
  · rintro (⟨helig, hlast, hleast⟩ | ⟨hbelow, helig, hleast⟩)
    · exact ⟨helig, .inl ⟨hlast, hleast⟩⟩
    · obtain ⟨l, hl, -⟩ := hbelow i helig
      refine ⟨helig, .inr ⟨⟨l, hl, fun j hj => ?_⟩, hleast⟩⟩
      obtain ⟨l', hl', hle⟩ := hbelow j hj
      exact (Option.some.inj (hl.symm.trans hl')) ▸ hle
  · rintro ⟨helig, ⟨hlast, hleast⟩ | ⟨⟨l, hl, hle⟩, hleast⟩⟩
    · exact .inl ⟨helig, hlast, hleast⟩
    · exact .inr ⟨fun j hj => ⟨l, hl, hle j hj⟩, helig, hleast⟩

theorem State.chooseProbe_eq_none_iff : s.chooseProbe k = none ↔ ∀ i, s.eligibleOn k i = false := by
  rw [State.chooseProbe_eq, Option.or_eq_none_iff]
  simp only [List.find?_eq_none, List.mem_finRange, forall_const, Bool.not_eq_true]
  refine ⟨fun h => h.2, fun h => ⟨fun i => ?_, h⟩⟩
  rw [h i, Bool.false_and]

/-- With a site eligible one is next in turn. -/
theorem State.exists_nextInTurn (h : ∃ i, s.eligibleOn k i = true) : ∃ i, s.nextInTurn k i := by
  obtain ⟨i, hi⟩ := h
  have hsome : s.chooseProbe k ≠ none := fun hnone => by
    rw [State.chooseProbe_eq_none_iff.mp hnone i] at hi
    cases hi
  obtain ⟨j, hj⟩ := Option.ne_none_iff_exists'.mp hsome
  exact ⟨j, State.chooseProbe_eq_some_iff.mp hj⟩

end

/-! ### SLOT_DEADLINE_EXPIRY -/

section
variable {k : TrunkNo} {s : State}

theorem execSlotDeadlineExpiry_off_occasion (h : (s.trunks.get k).timer ≠ .running s.time.now) :
    execSlotDeadlineExpiry k s = .next s := by
  refine congrArg Host.Outcome.next ?_
  split
  next deadline htimer => exact if_neg fun (e : deadline = s.time.now) => h (e ▸ htimer)
  all_goals rfl

theorem execSlotDeadlineExpiry_of_choice {i : SiteNo} (h : (s.trunks.get k).timer = .running s.time.now)
    (hi : s.chooseProbe k = some i) :
    execSlotDeadlineExpiry k s = .next (s.putTrunk k { s.trunks.get k with timer := .waiting i }) := by
  simp only [execSlotDeadlineExpiry, h, hi, if_true]

theorem execSlotDeadlineExpiry_of_no_choice (h : (s.trunks.get k).timer = .running s.time.now)
    (hi : s.chooseProbe k = none) :
    execSlotDeadlineExpiry k s =
      .next (s.putTrunk k { s.trunks.get k with timer := .running (after s.time.now s.config.probePeriod) }) := by
  simp only [execSlotDeadlineExpiry, h, hi, if_true]

end

/-- Settles O40, by the choice in turn. -/
theorem slotDeadlineChoosesInTurn : Obligations.SlotDeadlineChoosesInTurn := by
  intro k s
  refine ⟨execSlotDeadlineExpiry_off_occasion, fun h => ⟨fun i hi => ?_, fun hnone => ?_, State.exists_nextInTurn⟩⟩
  · exact completes_putTrunk (execSlotDeadlineExpiry_of_choice h (State.chooseProbe_eq_some_iff.mpr hi))
  · exact completes_putTrunk (execSlotDeadlineExpiry_of_no_choice h (State.chooseProbe_eq_none_iff.mpr hnone))

/-! ### The bench responder takes a probe (R190) -/

/-- An echo joins the undelivered ones behind those due no later, before the first that is due later. -/
theorem insertEcho_spec (e : BenchEcho) (l : List BenchEcho) :
    ∃ before after, l = before ++ after ∧ insertEcho e l = before ++ e :: after
      ∧ (∀ x ∈ before, isLater x.due e.due = false) ∧ ∀ x ∈ after.head?, isLater x.due e.due = true := by
  induction l with
  | nil => exact ⟨[], [], rfl, rfl, by simp, by simp⟩
  | cons x rest ih =>
    cases hx : isLater x.due e.due with
    | true => exact ⟨[], x :: rest, rfl, by simp [insertEcho, hx], by simp, by simpa using hx⟩
    | false =>
      obtain ⟨before, after, rfl, hinsert, hbefore, hafter⟩ := ih
      refine ⟨x :: before, after, rfl, by simp [insertEcho, hx, hinsert], ?_, hafter⟩
      rintro y (_ | ⟨_, hy⟩)
      · exact hx
      · exact hbefore y hy

section
variable {now : Instant} {delay address : Nat} {seq : Byte} {b : BenchResponder}

theorem BenchResponder.answerProbe_delivering : (b.answerProbe now delay address seq).delivering = b.delivering := by
  unfold BenchResponder.answerProbe
  split <;> rfl

theorem BenchResponder.answerProbe_of_full (h : 16 ≤ b.undelivered.length) : b.answerProbe now delay address seq = b :=
  if_neg (Nat.not_lt.mpr h)

theorem BenchResponder.answerProbe_of_room (h : b.undelivered.length < 16) :
    (b.answerProbe now delay address seq).undelivered =
      insertEcho { address := BitVec.ofNat 8 address, seq := seq, due := after now delay } b.undelivered := by
  unfold BenchResponder.answerProbe
  rw [if_pos h]

end

/-! ### PROBE_FRAME_START -/

section
variable {k : TrunkNo} {r : SiteNo} {s : State}

theorem execProbeFrameStart_of_waiting
    (h : (∀ r, (s.trunks.get k).timer ≠ .waiting r) ∨ (s.trunks.get k).tx ≠ none ∨ (s.trunks.get k).batchQueue ≠ []
      ∨ (s.trunks.get k).replyQueue ≠ []) : execProbeFrameStart k s = .next s := by
  refine congrArg Host.Outcome.next ?_
  split
  next requested htimer htx hbatch hreply =>
    rcases h with h | h | h | h
    · exact absurd htimer (h requested)
    · exact absurd htx h
    · exact absurd hbatch h
    · exact absurd hreply h
  · rfl

theorem execProbeFrameStart_of_target {i : SiteNo} {l : Link} (htimer : (s.trunks.get k).timer = .waiting r)
    (htx : (s.trunks.get k).tx = none) (hbatch : (s.trunks.get k).batchQueue = []) (hreply : (s.trunks.get k).replyQueue = [])
    (hi : s.probeTarget k r = some i) (hl : (s.sites.get i).link = some l) :
    execProbeFrameStart k s = .next (s.putTrunk k
      ((s.trunks.get k).startProbe k i l.address s.time.now s.time.rawCount s.config s.port.mode)) := by
  simp only [execProbeFrameStart, htimer, htx, hbatch, hreply, hi, hl, Option.map_some, Option.getD_some]

theorem execProbeFrameStart_of_no_target (htimer : (s.trunks.get k).timer = .waiting r)
    (htx : (s.trunks.get k).tx = none) (hbatch : (s.trunks.get k).batchQueue = []) (hreply : (s.trunks.get k).replyQueue = [])
    (hi : s.probeTarget k r = none) :
    execProbeFrameStart k s =
      .next (s.putTrunk k { s.trunks.get k with timer := .running (after s.time.now s.config.probePeriod) }) := by
  simp only [execProbeFrameStart, htimer, htx, hbatch, hreply, hi]

end

/-- Settles O41, by whether anything goes before the probe request, and by the site it is sent to (R84). -/
theorem probeFrameStartOpensProbe : Obligations.ProbeFrameStartOpensProbe := by
  rintro k s tr rfl
  refine ⟨execProbeFrameStart_of_waiting, fun r htimer htx hbatch hreply => ⟨fun i l hi hl => ?_, fun hnone => ?_⟩⟩
  · have htarget : s.probeTarget k r = some i := by
      rcases hi with ⟨helig, rfl⟩ | ⟨helig, hturn⟩
      · simp only [State.probeTarget, helig, if_true]
      · simp only [State.probeTarget, helig, Bool.false_eq_true, if_false, State.chooseProbe_eq_some_iff.mpr hturn]
    obtain ⟨t, hcompletes, hbecomes⟩ :=
      completes_putTrunk (c := .probeFrameStart k) (execProbeFrameStart_of_target htimer htx hbatch hreply htarget hl)
    cases hmode : s.port.mode with
    | align =>
      rw [hmode] at hbecomes
      exact ⟨t, _, hcompletes, hbecomes, rfl, fun _ => rfl, nofun⟩
    | bench =>
      rw [hmode] at hbecomes
      refine ⟨t, _, hcompletes, hbecomes, BenchResponder.answerProbe_delivering, fun h => ?_, fun _ hroom => ?_⟩
      · exact BenchResponder.answerProbe_of_full (h.resolve_left nofun)
      · obtain ⟨before, after', hsplit, hinsert, hbefore, hafter⟩ := insertEcho_spec
          { address := BitVec.ofNat 8 l.address, seq := (s.trunks.get k).nextSeq
            due := after s.time.now (s.trunks.get k).benchDelay } (s.trunks.get k).bench.undelivered
        exact ⟨before, after', hsplit, (BenchResponder.answerProbe_of_room hroom).trans hinsert, hbefore, hafter⟩
  · have htarget : s.probeTarget k r = none := by
      simp only [State.probeTarget, hnone r, Bool.false_eq_true, if_false, State.chooseProbe_eq_none_iff.mpr hnone]
    exact completes_putTrunk (execProbeFrameStart_of_no_target htimer htx hbatch hreply htarget)

/-! ### BENCH_ECHO_DELIVERY -/

section
variable {k : TrunkNo} {s : State}

theorem execBenchEchoDelivery_off_occasion
    (h : s.port.mode = .align ∨ (s.trunks.get k).enable = false ∨ (s.trunks.get k).bench.delivering ≠ none
      ∨ (s.trunks.get k).bench.undelivered = []) : execBenchEchoDelivery k s = .next s := by
  refine congrArg Host.Outcome.next ?_
  split
  next e rest hmode henable hdelivering hundelivered => simp [hmode, henable, hdelivering, hundelivered] at h
  · rfl

theorem execBenchEchoDelivery_of_early {e : BenchEcho} {rest : List BenchEcho}
    (hu : (s.trunks.get k).bench.undelivered = e :: rest) (h : isLater e.due s.time.now = true) :
    execBenchEchoDelivery k s = .next s := by
  refine congrArg Host.Outcome.next ?_
  split
  next e' rest' hmode henable hdelivering hundelivered =>
    obtain rfl : e = e' := List.head_eq_of_cons_eq (hu.symm.trans hundelivered)
    exact if_pos h
  · rfl

end

/-- Settles O47, by the four things a delivery waits for. -/
theorem benchEchoIsDeliveredWhenDue : Obligations.BenchEchoIsDeliveredWhenDue := by
  rintro k s tr rfl
  refine ⟨execBenchEchoDelivery_off_occasion, fun e rest hu =>
    ⟨execBenchEchoDelivery_of_early hu, fun hmode henable hdelivering hdue => completes_putTrunk ?_⟩⟩
  refine congrArg Host.Outcome.next ?_
  simp only [hmode, henable, hdelivering, hu, hdue, Bool.false_eq_true, if_false]

end Sys2Proof.Machine
end

section
/-! Proofs of what reaches a site over a trunk: an echo (O42), a timeout (O43) and a notice (O48). -/

namespace Sys2Proof.Machine

/-! ### A record written by an event -/

section
variable {i : SiteNo} {r : SiteRecord} {b x : Bool} {l : List Cause} {s t : State}

/-- One record written marks the plan stale exactly where the plan's view of it changes (R23). -/
theorem State.putSite_stale_iff :
    (s.putSite i r).solver.stale = true
      ↔ s.solver.stale = true ∨ r.planView s.config.growth ≠ (s.sites.get i).planView s.config.growth := by
  rw [State.putSite_solver, Bool.or_eq_true, decide_eq_true_iff, ne_comm]

/-- The conditions follow their sources whether or not STEP is latched beside them. -/
theorem conditionsFollow_latchStep (hstep : Cause.step ∉ l) (h : conditionsFollow l s t) :
    conditionsFollow l (s.latchStep b) ((t.markStaleIf x).latchStep b) := by
  obtain ⟨hmask, hcal, hcauses⟩ := h
  refine ⟨hmask, hcal, fun c => ?_⟩
  have hc := hcauses c
  cases c with
  | step =>
    rw [if_neg hstep] at hc ⊢
    exact congrArg (· || b) hc
  | fault | cal | zone | suspect | holdover | notice | report | drift => exact hc

end

/-! ### PROBE_TIMEOUT_EXPIRY (R88) -/

section
variable {k : TrunkNo} {o : Outstanding} {s : State}

theorem execProbeTimeoutExpiry_off_occasion (h : ∀ o, (s.trunks.get k).outstanding = some o → o.deadline ≠ s.time.now) :
    execProbeTimeoutExpiry k s = .next s := by
  refine congrArg Host.Outcome.next ?_
  split
  next o ho => exact if_neg (h o ho)
  · rfl

theorem execProbeTimeoutExpiry_of_due (ho : (s.trunks.get k).outstanding = some o) (hdue : o.deadline = s.time.now) :
    execProbeTimeoutExpiry k s = .next
      (if s.stillThere o then (s.putTrunk k (s.trunks.get k).closeProbe).timeoutResult o.site
        else s.putTrunk k (s.trunks.get k).closeProbe) := by
  simp only [execProbeTimeoutExpiry, ho, hdue, if_true, State.putTrunk_stillThere (x := (s.trunks.get k).closeProbe) rfl]

end

/-- Settles O43, by whether the site is still where the probe was sent. -/
theorem probeTimeoutCountsMiss : Obligations.ProbeTimeoutCountsMiss := by
  intro k s
  refine ⟨execProbeTimeoutExpiry_off_occasion, fun o ho hdue => ⟨fun hgone => ?_, fun hthere => ?_⟩⟩
  · refine completes_putTrunk ((execProbeTimeoutExpiry_of_due ho hdue).trans ?_)
    rw [if_neg (by simp [hgone])]
    rfl
  · have hexec : exec (.probeTimeoutExpiry k) s =
        .next ((s.putTrunk k (s.trunks.get k).closeProbe).timeoutResult o.site) :=
      (execProbeTimeoutExpiry_of_due ho hdue).trans (by rw [if_pos hthere])
    have hsite := State.putSite_siteBecomes o.site (applyMiss s.config (s.sites.get o.site))
      (s.putTrunk k (s.trunks.get k).closeProbe)
    refine ⟨_, ⟨hexec, exec_onlyChanges hexec⟩, State.putTrunk_trunkBecomes k _ s, hsite, rfl, rfl, ?_,
      State.installSites_conditionsFollow _ _ _⟩
    have hself : ((s.putTrunk k (s.trunks.get k).closeProbe).timeoutResult o.site).sites.get o.site
        = applyMiss s.config (s.sites.get o.site) := hsite.1
    rw [hself]
    exact State.putSite_stale_iff

/-! ### ECHO_TAKEN (R76, R86, R87) -/

section
variable {k : TrunkNo} {bits : List Bool} {bytes : List Byte} {instant : Instant} {address seq : Byte} {t16 : BitVec 16}
  {o : Outstanding} {s : State}

/-- The line can deliver an ECHO: in BENCH mode the responder's own, whole. -/
theorem Trunk.canDeliver_of_mode {mode : Mode} {raw : BitVec 32} {tr : Trunk}
    (h : mode = .align ∨ ∃ d, tr.bench.delivering = some d ∧ bytes = echoBytes d.echo.address d.echo.seq 0
      ∧ lineTimePassed tr.rate 10 d.startRaw raw = true) : tr.canDeliver mode raw bytes = true := by
  cases mode with
  | align => rfl
  | bench =>
    obtain ⟨d, hd, hbytes, hpassed⟩ := h.resolve_left nofun
    simp only [Trunk.canDeliver, BenchResponder.completes, hd, ← hbytes, hpassed, decide_true, Bool.and_self]

theorem execEchoTaken_of_echo (hframer : (s.trunks.get k).framer = .collecting instant) (hbits : frameBytes? bits = some bytes)
    (hecho : bytes = echoBytes address seq t16)
    (hdeliver : (s.trunks.get k).canDeliver s.port.mode s.time.rawCount bytes = true) :
    execEchoTaken k bits s =
      .next ((s.putTrunk k (s.trunks.get k).frameTaken).matchEcho k address seq t16 instant) := by
  have hjudge : judge bytes = .echo address seq t16 := (judge_eq_echo_iff ..).mpr hecho
  simp only [execEchoTaken, hbits, hframer, hjudge, hdeliver]

theorem State.matchEcho_of_stray
    (h : ∀ o, (s.trunks.get k).outstanding = some o → o.address ≠ address.toNat ∨ o.seq ≠ seq) :
    s.matchEcho k address seq t16 instant = s.putTrunk k (s.trunks.get k).strayEcho := by
  unfold State.matchEcho
  dsimp only
  split
  next o ho =>
    refine if_neg fun hmatch => ?_
    obtain ⟨ha, hq⟩ := of_decide_eq_true hmatch
    exact (h o ho).elim (fun hn => hn ha.symm) fun hn => hn hq.symm
  · rfl

theorem State.matchEcho_of_match (ho : (s.trunks.get k).outstanding = some o) (ha : o.address = address.toNat)
    (hq : o.seq = seq) :
    s.matchEcho k address seq t16 instant =
      if s.stillThere o then
        (s.putTrunk k (s.trunks.get k).closeProbe).echoResult o.site (interval o.instant instant) t16.toNat
      else s.putTrunk k (s.trunks.get k).closeProbe := by
  have hmatch : o.matchedBy address seq = true := decide_eq_true ⟨ha.symm, hq.symm⟩
  simp only [State.matchEcho, ho, hmatch, if_true, State.putTrunk_stillThere (x := (s.trunks.get k).closeProbe) rfl]

end

/-- What the tracker makes of an echo at a record: the sample's work, or without one that of a miss (R42–R44). -/
def echoTracked (p : Params) (loop turnaround : Nat) (asym : Int) (r : SiteRecord) : Tracked :=
  match sample? loop turnaround asym with
  | some y => applySample p y r
  | none => { record := applyMiss p r, completed := false, reseated := false }

section
variable {p : Params} {i : SiteNo} {loop turnaround : Nat} {asym : Int} {r : SiteRecord} {l : Link} {s : State}

theorem echoTracked_of_sample {y : Nat} (h : sample? loop turnaround asym = some y) :
    echoTracked p loop turnaround asym r = applySample p y r := by simp only [echoTracked, h]

theorem echoTracked_of_no_sample (h : sample? loop turnaround asym = none) :
    echoTracked p loop turnaround asym r = { record := applyMiss p r, completed := false, reseated := false } := by
  simp only [echoTracked, h]

/-- An echo result hands on the record, the stale mark and the re-seat together (R66). -/
theorem State.echoResult_eq (hl : (s.sites.get i).link = some l) :
    s.echoResult i loop turnaround =
      ((s.putSite i (echoTracked s.config loop turnaround l.asym (s.sites.get i)).record).markStaleIf
        (echoTracked s.config loop turnaround l.asym (s.sites.get i)).completed).latchStep
        (echoTracked s.config loop turnaround l.asym (s.sites.get i)).reseated := by
  cases h : sample? loop turnaround l.asym with
  | some y => rw [State.echoResult_of_sample hl h, echoTracked_of_sample h]
  | none =>
    rw [State.echoResult_of_no_sample hl h, echoTracked_of_no_sample h]
    simp only [State.timeoutResult, State.markStaleIf, State.latchStep, Bool.or_false]

end

/-- Settles O42: the echo matches no probe, or the probe of a site that has gone, or it reaches the tracker (R86, R87). -/
theorem echoTakenReachesTracker : Obligations.EchoTakenReachesTracker := by
  rintro k bits bytes s tr instant address seq t16 rfl hframer hbits hecho hmode
  have htaken := execEchoTaken_of_echo hframer hbits hecho (Trunk.canDeliver_of_mode hmode)
  obtain ⟨v, hv⟩ : ∃ v, v = s.putTrunk k (s.trunks.get k).frameTaken := ⟨_, rfl⟩
  rw [← hv] at htaken
  have hvk : v.trunks.get k = (s.trunks.get k).frameTaken := by
    rw [hv]
    exact Table.get_set_self ..
  have hvtrunk : trunkBecomes k (s.trunks.get k).frameTaken s v := hv ▸ State.putTrunk_trunkBecomes k _ s
  have hvonly : onlyChanges [.trunks] s v := hv ▸ State.putTrunk_onlyChanges k _ s
  have hvput (x : Trunk) : onlyChanges [.trunks] s (v.putTrunk k x) :=
    onlyChanges_trans hvonly (State.putTrunk_onlyChanges k x v)
  have hout : (v.trunks.get k).outstanding = (s.trunks.get k).outstanding := by
    rw [hvk]
    rfl
  refine ⟨fun hstray => ?_, fun o ho ha hq => ?_⟩
  · rw [State.matchEcho_of_stray (by rwa [hout])] at htaken
    refine ⟨_, ⟨htaken, hvput _⟩, trunkBecomes_trans hvtrunk ?_⟩
    rw [hvk]
    exact State.putTrunk_trunkBecomes k _ v
  have hclosed : trunkBecomes k { (s.trunks.get k).frameTaken with outstanding := none } s
      (v.putTrunk k (v.trunks.get k).closeProbe) := by
    refine trunkBecomes_trans hvtrunk ?_
    rw [hvk]
    exact State.putTrunk_trunkBecomes k _ v
  have hthere : v.stillThere o = s.stillThere o := hv ▸ State.putTrunk_stillThere (x := (s.trunks.get k).frameTaken) rfl o
  rw [State.matchEcho_of_match (hout.trans ho) ha hq, hthere] at htaken
  refine ⟨fun hgone => ?_, fun hstill l hl => ?_⟩
  · rw [if_neg (by simp [hgone])] at htaken
    exact ⟨_, ⟨htaken, hvput _⟩, hclosed⟩
  rw [if_pos hstill] at htaken
  obtain ⟨u, hu⟩ : ∃ u, u = v.putTrunk k (v.trunks.get k).closeProbe := ⟨_, rfl⟩
  rw [← hu] at htaken hclosed
  have husites : u.sites = s.sites := by rw [hu, hv]; rfl
  have hconfig : u.config = s.config := by rw [hu, hv]; rfl
  have hsolver : u.solver = s.solver := by rw [hu, hv]; rfl
  have hattention : u.attention = s.attention := by rw [hu, hv]; rfl
  obtain ⟨x, hx⟩ : ∃ x, x = echoTracked s.config (interval o.instant instant) t16.toNat l.asym (s.sites.get o.site) := ⟨_, rfl⟩
  rw [State.echoResult_eq (l := l) (by rw [husites, hl]), husites, hconfig, ← hx] at htaken
  have hsite : siteBecomes o.site x.record s (u.putSite o.site x.record) := by
    have h := State.putSite_siteBecomes o.site x.record u
    rwa [siteBecomes, otherSitesSame, husites] at h
  have hstale : ((u.putSite o.site x.record).markStaleIf x.completed).solver.stale = true
      ↔ s.solver.stale = true ∨ x.completed = true
        ∨ x.record.planView s.config.growth ≠ (s.sites.get o.site).planView s.config.growth := by
    rw [State.markStaleIf_stale, Bool.or_eq_true, State.putSite_stale_iff, husites, hconfig, hsolver, or_assoc,
      or_comm (a := x.completed = true)]
  have hfollow : conditionsFollow [.suspect, .holdover, .drift] s (u.putSite o.site x.record) := by
    have h := State.installSites_conditionsFollow u.config.growth (u.sites.set o.site x.record) u
    rwa [conditionsFollow, hattention] at h
  have hrunning : u.solver.running = s.solver.running := congrArg Solver.running hsolver
  have hlatest : u.solver.latest = s.solver.latest := congrArg Solver.latest hsolver
  refine ⟨_, ⟨htaken, exec_onlyChanges (c := .echoTaken k bits) htaken⟩, trunkBecomes_of_same hclosed rfl, ?_,
    fun reseated completed hpair => ?_, hrunning, hlatest⟩
  · cases hsample : sample? (instant - o.instant).toNat t16.toNat l.asym with
    | some y =>
      rw [interval, echoTracked_of_sample hsample] at hx
      exact hx ▸ hsite
    | none =>
      rw [interval, echoTracked_of_no_sample hsample] at hx
      have hrecord : x.record = applyMiss s.config (s.sites.get o.site) := by rw [hx]
      exact hrecord ▸ hsite
  · obtain ⟨rfl, rfl⟩ : reseated = x.reseated ∧ completed = x.completed := by
      cases hsample : sample? (instant - o.instant).toNat t16.toNat l.asym with
      | some y =>
        rw [hsample] at hpair
        rw [interval, echoTracked_of_sample hsample] at hx
        exact hx ▸ Prod.mk.inj hpair
      | none =>
        rw [hsample] at hpair
        rw [interval, echoTracked_of_no_sample hsample] at hx
        exact hx ▸ Prod.mk.inj hpair
    refine ⟨?_, conditionsFollow_latchStep (by decide) hfollow, ?_⟩
    · have hstep : u.attention.present.step = s.attention.present.step := congrArg (fun a => a.present.step) hattention
      exact congrArg (· || x.reseated) hstep
    · have hrecord : (((u.putSite o.site x.record).markStaleIf x.completed).latchStep x.reseated).sites.get o.site = x.record :=
        hsite.1
      rw [hrecord]
      exact hstale

/-! ### The site of a notice, and the decision (R95–R97) -/

section
variable {k : TrunkNo} {i : SiteNo} {address kind : Byte} {n : NoticeKind} {s : State}

theorem State.noticeSite?_of_none
    (h : ∀ i, (s.sites.get i).isAt k address.toNat = true → (s.sites.get i).state.takesNotices = false) :
    s.noticeSite? k address = none := by
  simp only [State.noticeSite?, List.find?_eq_none, List.mem_finRange, forall_const, Bool.and_eq_true, not_and,
    Bool.not_eq_true]
  exact h

/-- No other site in service stands at the notice's trunk and address (R18), so the site found is the one that does. -/
theorem State.noticeSite?_of_unique (hat : (s.sites.get i).isAt k address.toNat = true)
    (htakes : (s.sites.get i).state.takesNotices = true)
    (hunique : ∀ j, j ≠ i → (s.sites.get j).state ≠ .vacant → (s.sites.get j).isAt k address.toNat = false) :
    s.noticeSite? k address = some i := by
  refine find?_finRange_eq_some_iff.mpr ⟨by rw [hat, htakes, Bool.and_self], fun j hj => ?_⟩
  obtain ⟨hatj, htakesj⟩ := Bool.and_eq_true_iff.mp hj
  by_contra hlt
  have hne : j ≠ i := fun e => hlt e.ge
  have hvacant : (s.sites.get j).state ≠ .vacant := fun e => by
    rw [e] at htakesj
    cases htakesj
  rw [hunique j hne hvacant] at hatj
  cases hatj

theorem State.noticeDecision_of_unknown (h : noticeKind? kind = none ∨ s.noticeSite? k address = none) :
    s.noticeDecision k address kind = .unknown := by
  unfold State.noticeDecision
  split
  next hsite hkind => simp [hsite, hkind] at h
  · rfl

theorem State.noticeDecision_of_site (hkind : noticeKind? kind = some n) (hsite : s.noticeSite? k address = some i) :
    s.noticeDecision k address kind = if (s.sites.get i).notice.isSome then .busy else .taken := by
  simp only [State.noticeDecision, hkind, hsite]

theorem State.applyNotice_of_unknown {detail : BitVec 16} {instant : Instant}
    (h : noticeKind? kind = none ∨ s.noticeSite? k address = none) : s.applyNotice k address kind detail instant = s := by
  unfold State.applyNotice
  split
  next hsite hkind => simp [hsite, hkind] at h
  · rfl

theorem State.applyNotice_of_site {detail : BitVec 16} {instant : Instant} (hkind : noticeKind? kind = some n)
    (hsite : s.noticeSite? k address = some i) :
    s.applyNotice k address kind detail instant =
      if (s.sites.get i).notice.isSome then s else s.storeNotice i { kind := n, detail := detail, instant := instant } := by
  simp only [State.applyNotice, hkind, hsite]

end

/-! ### What each kind does (R99–R102) -/

section
variable {r : SiteRecord}

theorem SiteRecord.noticeEffect_siteRestart (h : r.state.takesNotices = true) :
    r.noticeEffect .siteRestart = if r.state = .suspended then r else { r with phase := .probing [], m := 0 } := by
  unfold SiteRecord.state at *
  cases hp : r.phase with
  | vacant | retiring =>
    rw [hp] at h
    cases h
  | suspended b | probing l | aligned l | holdover l n | suspect l =>
    simp [SiteRecord.noticeEffect, SiteRecord.enterProbing, SitePhase.state, hp]

theorem SiteRecord.noticeEffect_serviceOff (h : r.state.takesNotices = true) :
    r.noticeEffect .serviceOff = { r with phase := .suspended true, m := if r.state = .suspended then r.m else 0 } := by
  unfold SiteRecord.state at *
  cases hp : r.phase with
  | vacant | retiring =>
    rw [hp] at h
    cases h
  | suspended b | probing l | aligned l | holdover l n | suspect l =>
    simp [SiteRecord.noticeEffect, SiteRecord.enterSuspended, SitePhase.state, hp]

theorem SiteRecord.noticeEffect_serviceOn :
    r.noticeEffect .serviceOn = if r.phase = .suspended true then { r with phase := .probing [], m := 0 } else r := by
  unfold SiteRecord.noticeEffect
  split
  case h_10 hp => rw [if_pos hp, SiteRecord.enterProbing]
  case h_11 hother =>
    rw [if_neg fun hp => ?_]
    exact hother rfl hp
  all_goals contradiction

/-- A notice changes what the plan reads of a record exactly when it changes the record's state (R103). -/
theorem SiteRecord.noticeEffect_planView (kind : NoticeKind) (g : Nat) (r : SiteRecord) :
    (r.noticeEffect kind).planView g ≠ r.planView g ↔ (r.noticeEffect kind).state ≠ r.state := by
  refine not_congr ⟨fun h => congrArg PlanView.state h, fun hstate => ?_⟩
  rcases r.noticeEffect_cases kind with e | ⟨e, hfrom⟩ | ⟨e, hfrom⟩ | ⟨e, hfrom⟩ <;> rw [e] at hstate ⊢
  case inr.inr.inl =>
    -- a probed site does not stay in its state when it is suspended
    exact absurd hstate.symm (SiteRecord.in_service_of_probed hfrom).2.2
  · -- PROBING before and after: u is absent
    have hphase : r.state = .probing := hstate.symm
    unfold SiteRecord.state at hphase
    cases hp : r.phase <;> rw [hp] at hphase <;> cases hphase
    simp [SiteRecord.planView, SiteRecord.enterProbing, SiteRecord.state, SitePhase.state, SiteRecord.u, hp]
  · unfold SiteRecord.state at hfrom
    cases hp : r.phase <;> rw [hp] at hfrom <;> cases hfrom
    simp [SiteRecord.planView, SiteRecord.state, SitePhase.state, SiteRecord.u, hp]

end

/-! ### NOTICE_ARRIVAL -/

section
variable {k : TrunkNo} {bits : List Bool} {instant : Instant} {address kind seq : Byte} {detail : BitVec 16} {s : State}

/-- The trunk after a notice has been judged: the framer hunts again, and the reply waits (R81). -/
def Trunk.withReply (address seq : Byte) (decision : Decision) (tr : Trunk) : Trunk :=
  { tr with
    framer := .hunting, replyQueue := tr.replyQueue ++ [{ address := address, seq := seq, decision := decision }] }

theorem execNoticeArrival_of_notice (hframer : (s.trunks.get k).framer = .collecting instant) (hmode : s.port.mode = .align)
    (hbits : frameBytes? bits = some (noticeBytes address kind detail seq)) :
    execNoticeArrival k bits s = .next
      (if 8 ≤ (s.trunks.get k).replyQueue.length then s.putTrunk k (s.trunks.get k).discardFrame
        else (s.putTrunk k ((s.trunks.get k).withReply address seq (s.noticeDecision k address kind))).applyNotice
          k address kind detail instant) := by
  have hjudge : (frameBytes? bits).map judge = some (.notice address kind detail seq) := by
    rw [hbits, Option.map_some, (judge_eq_notice_iff ..).mpr rfl]
  simp only [execNoticeArrival, hmode, hframer, hjudge]
  rfl

end

/-- Settles O48, by the four outcomes: discarded, UNKNOWN, BUSY and TAKEN (R81, R95–R97). -/
theorem noticeArrivalIsJudged : Obligations.NoticeArrivalIsJudged := by
  rintro k bits s tr instant address kind seq detail rfl hframer hmode hbits
  have htaken := execNoticeArrival_of_notice hframer hmode hbits
  refine ⟨fun hfull => completes_putTrunk (htaken.trans (congrArg Host.Outcome.next (if_pos hfull))), fun hroom => ?_⟩
  rw [if_neg (Nat.not_le.mpr hroom)] at htaken
  refine ⟨fun hunknown => ?_, fun i n hkind hat htakes hunique => ?_⟩
  · have hnone : noticeKind? kind = none ∨ s.noticeSite? k address = none := hunknown.imp_right State.noticeSite?_of_none
    rw [State.noticeDecision_of_unknown hnone, State.applyNotice_of_unknown (s := s.putTrunk k _) hnone] at htaken
    exact completes_putTrunk htaken
  have hsite := State.noticeSite?_of_unique hat htakes hunique
  obtain ⟨v, hv⟩ : ∃ v, v = s.putTrunk k ((s.trunks.get k).withReply address seq (s.noticeDecision k address kind)) := ⟨_, rfl⟩
  have hvsites : v.sites = s.sites := by rw [hv]; rfl
  have hvsite : v.noticeSite? k address = some i := by rw [hv]; exact hsite
  rw [← hv, State.applyNotice_of_site hkind hvsite, hvsites] at htaken
  rw [State.noticeDecision_of_site hkind hsite] at hv
  refine ⟨fun hbusy => ?_, fun hfree => ?_⟩
  · have hsome : (s.sites.get i).notice.isSome = true := Option.isSome_iff_ne_none.mpr hbusy
    rw [if_pos hsome] at htaken hv
    exact completes_putTrunk (hv ▸ htaken)
  have hnone : ¬(s.sites.get i).notice.isSome = true := by simp [hfree]
  rw [if_neg hnone] at htaken hv
  obtain ⟨r, hr⟩ : ∃ r, r = ({ s.sites.get i with notice := some { kind := n, detail := detail, instant := instant } } : SiteRecord) :=
    ⟨_, rfl⟩
  have hstate : r.state = (s.sites.get i).state := by rw [hr]; rfl
  have htakesr : r.state.takesNotices = true := hstate ▸ htakes
  have hstore : v.storeNotice i { kind := n, detail := detail, instant := instant }
      = (v.putSite i (r.noticeEffect n)).setNoticeOrder (v.noticeOrder ++ [i]) := by
    rw [State.storeNotice, hvsites, hr]
  rw [hstore] at htaken
  have hbecomes : siteBecomes i (r.noticeEffect n) s ((v.putSite i (r.noticeEffect n)).setNoticeOrder (v.noticeOrder ++ [i])) := by
    have h := State.putSite_siteBecomes i (r.noticeEffect n) v
    rw [siteBecomes, otherSitesSame, hvsites] at h
    exact h
  refine ⟨_, r, ⟨htaken, exec_onlyChanges (c := .noticeArrival k bits) htaken⟩,
    trunkBecomes_of_same (hv ▸ State.putTrunk_trunkBecomes k _ s) rfl, hr, ?_, by rw [hv]; rfl, ?_, ?_⟩
  · cases n with
    | keyfail | paFault => exact hbecomes
    | siteRestart => exact SiteRecord.noticeEffect_siteRestart htakesr ▸ hbecomes
    | serviceOff => exact SiteRecord.noticeEffect_serviceOff htakesr ▸ hbecomes
    | serviceOn => exact SiteRecord.noticeEffect_serviceOn (r := r) ▸ hbecomes
  · rw [hbecomes.1]
    have hvsolver : v.solver = s.solver := by rw [hv]; rfl
    have hvconfig : v.config = s.config := by rw [hv]; rfl
    have hview : r.planView s.config.growth = (s.sites.get i).planView s.config.growth := by rw [hr]; rfl
    have hsolver := State.putSite_solver i (r.noticeEffect n) v
    rw [hvsolver, hvsites, hvconfig, ← hview] at hsolver
    refine hsolver.trans (congrArg (fun b => { s.solver with stale := s.solver.stale || b }) ?_)
    rw [← hstate, decide_eq_decide, ne_comm]
    exact SiteRecord.noticeEffect_planView n _ r
  · have hattention : v.attention = s.attention := by rw [hv]; rfl
    have hsites : conditionsFollow [.suspect, .holdover, .drift] s (v.putSite i (r.noticeEffect n)) := by
      have h := State.installSites_conditionsFollow v.config.growth (v.sites.set i (r.noticeEffect n)) v
      rw [conditionsFollow, hattention] at h
      exact h
    refine conditionsFollow_trans (m := [.notice]) hsites (State.setNoticeOrder_conditionsFollow _ _) fun c _ hc =>
      State.setNoticeOrder_holdsCause _ _ fun e => hc ?_
    exact e ▸ List.mem_singleton_self _

end Sys2Proof.Machine
end

section
/-! Proof of O46: the delimiter, the frames the framer discards, and the gap (R76, R77). -/

namespace Sys2Proof.Machine

/-! ### Hunting (R76) -/

/-- A byte that is not the C5h of a delimiter comes before every delimiter behind it. -/
theorem cons_eq_append_delimiter {x : Byte} {l c : List Byte} (h : ∀ rest, x = 0xC5 → l ≠ 0x3A :: rest) (a : List Byte) :
    x :: l = a ++ [0xC5, 0x3A] ++ c ↔ ∃ a', a = x :: a' ∧ l = a' ++ [0xC5, 0x3A] ++ c := by
  rw [List.append_assoc, List.cons_eq_append_iff]
  constructor
  · rintro (⟨-, heq⟩ | ⟨a', rfl, rfl⟩)
    · obtain ⟨hx, hl⟩ := List.cons.inj heq
      exact absurd hl.symm (h c hx.symm)
    · exact ⟨a', rfl, by simp⟩
  · rintro ⟨a', rfl, rfl⟩
    exact .inr ⟨a', rfl, by simp⟩

/-- The last two of some bytes are a delimiter, and it is the first among them. -/
def endsAtFirstDelimiter (l : List Byte) : Prop :=
  (∃ a, l = a ++ [0xC5, 0x3A]) ∧ ∀ a c, l = a ++ [0xC5, 0x3A] ++ c → c = []

theorem endsAtFirstDelimiter_cons {x : Byte} {l : List Byte} (h : ∀ rest, x = 0xC5 → l ≠ 0x3A :: rest) :
    endsAtFirstDelimiter (x :: l) ↔ endsAtFirstDelimiter l := by
  have hcons := fun a => cons_eq_append_delimiter (c := []) h a
  simp only [List.append_nil] at hcons
  constructor
  · rintro ⟨⟨a, ha⟩, hfirst⟩
    obtain ⟨a', -, hl⟩ := (hcons a).mp ha
    exact ⟨⟨a', hl⟩, fun b c hb => hfirst (x :: b) c ((cons_eq_append_delimiter h _).mpr ⟨b, rfl, hb⟩)⟩
  · rintro ⟨⟨a, ha⟩, hfirst⟩
    refine ⟨⟨x :: a, (hcons _).mpr ⟨a, rfl, ha⟩⟩, fun b c hb => ?_⟩
    obtain ⟨b', -, hl⟩ := (cons_eq_append_delimiter h b).mp hb
    exact hfirst b' c hl

/-- Hunting behind a byte finds the delimiter that ends the bytes with it, where none came before. -/
theorem hunt_iff (x : Byte) (l : List Byte) : hunt (decide (x = 0xC5)) l = true ↔ endsAtFirstDelimiter (x :: l) := by
  induction l generalizing x with
  | nil =>
    refine iff_of_false (by simp [hunt]) fun ⟨⟨a, ha⟩, _⟩ => ?_
    have hlen := congrArg List.length ha
    simp at hlen
  | cons b rest ih =>
    rw [hunt]
    by_cases hfound : b = 0x3A ∧ decide (x = 0xC5) = true
    · obtain ⟨rfl, hx⟩ := hfound
      obtain rfl := of_decide_eq_true hx
      rw [if_pos ⟨rfl, by simp⟩, decide_eq_true_iff]
      constructor
      · rintro rfl
        refine ⟨⟨[], rfl⟩, fun a c hac => ?_⟩
        have hlen := congrArg List.length hac
        simp only [List.length_append, List.length_cons, List.length_nil] at hlen
        exact List.eq_nil_of_length_eq_zero (by omega)
      · exact fun ⟨_, hfirst⟩ => hfirst [] rest rfl
    · rw [if_neg hfound, ih b]
      refine (endsAtFirstDelimiter_cons fun r hx hb => hfound ?_).symm
      exact ⟨(List.cons.inj hb).1, decide_eq_true hx⟩

theorem hunt_false_iff (l : List Byte) : hunt false l = true ↔ endsAtFirstDelimiter l := by
  have h := hunt_iff 0 l
  rwa [endsAtFirstDelimiter_cons fun _ hx => absurd hx (by decide)] at h

/-- A delimiter that ends the bytes is the first where none ends before its last byte. -/
theorem endsAtFirstDelimiter_of_first {l : List Byte} (h : ∀ a c, l ++ [0xC5] ≠ a ++ [0xC5, 0x3A] ++ c) :
    endsAtFirstDelimiter (l ++ [0xC5, 0x3A]) := by
  refine ⟨⟨l, rfl⟩, fun a c hac => ?_⟩
  rcases List.eq_nil_or_concat c with hc | ⟨c', y, rfl⟩
  · exact hc
  · rw [List.concat_eq_append] at hac
    have hsplit : (l ++ [0xC5]) ++ [(0x3A : Byte)] = (a ++ [0xC5, 0x3A] ++ c') ++ [y] := by
      simpa [List.append_assoc] using hac
    exact absurd (List.append_inj' hsplit rfl).1 (h a c')

/-! ### DELIMITER_FOUND -/

section
variable {k : TrunkNo} {line : List (Bool × Nat)} {s : State} {instant : Instant} {earlier : List (Byte × Nat)}
  {ticks rest : Nat}

theorem delimiterInstant_of_end {rate : BitRate} {time : TimeBase} (b : Byte) :
    delimiterInstant rate (earlier ++ [(b, ticks), (0x3A, rest)]) time =
      if 19 * 40000000 ≤ ticks * rate.bps ∧ ticks * rate.bps ≤ 40 * 40000000 then time.nowAt ticks else none := by
  have hlast : (earlier ++ [(b, ticks), (0x3A, rest)]).dropLast.getLast? = some (b, ticks) := by
    rw [List.dropLast_append_of_ne_nil (by simp)]
    simp
  simp only [delimiterInstant, hlast]
  rfl

theorem execDelimiterFound_of_found (hmode : s.port.mode = .align) (hframer : (s.trunks.get k).framer = .hunting)
    (hhunt : hunt false ((huntedBytes line).map Prod.fst) = true)
    (hinstant : delimiterInstant (s.trunks.get k).rate (huntedBytes line) s.time = some instant) :
    execDelimiterFound k line s = .next (s.putTrunk k { s.trunks.get k with framer := .collecting instant }) := by
  simp only [execDelimiterFound, hmode, hframer, hhunt, hinstant]

theorem execDelimiterFound_off_occasion
    (h : s.port.mode = .bench ∨ (s.trunks.get k).framer ≠ .hunting
      ∨ ¬hunt false ((huntedBytes line).map Prod.fst) = true
      ∨ delimiterInstant (s.trunks.get k).rate (huntedBytes line) s.time = none) :
    execDelimiterFound k line s = .next s := by
  refine congrArg Host.Outcome.next ?_
  split
  next instant hmode hframer hhunt hinstant => simp [hmode, hframer, hhunt, hinstant] at h
  · rfl

end

/-! ### RECEIVE_FRAME_DISCARD (R77) -/

section
variable {bytes : List Byte}

theorem judge_unfinished_iff : judge bytes = .unfinished ↔ stillCollecting bytes := by
  constructor
  · intro h
    have hjudged := judge_judged bytes
    rw [h] at hjudged
    cases hjudged with
    | none => exact .inl rfl
    | length len hlen => exact hlen.elim (fun e => .inr (.inl (by rw [e]))) fun e => .inr (.inr (.inl (by rw [e])))
    | echoPart fields hlen => exact .inr (.inr (.inr (.inl ⟨fields, rfl, hlen⟩)))
    | noticePart fields hlen => exact .inr (.inr (.inr (.inr ⟨fields, rfl, hlen⟩)))
  · rintro (rfl | rfl | rfl | ⟨rest, rfl, hlen⟩ | ⟨rest, rfl, hlen⟩)
    · rfl
    · rfl
    · rfl
    · rw [judge_echo_partial hlen.ne, if_pos hlen]
    · rw [judge_notice_partial hlen.ne, if_pos hlen]

theorem discardsAt_of_stop_iff : discardsAt bytes true = true ↔ bytes ≠ [] ∧ judge bytes.dropLast = .unfinished := by
  simp only [discardsAt, if_true, decide_eq_true_iff]

theorem discardsAt_of_mark_iff : discardsAt bytes false = true ↔ ∃ c, judge bytes = .bad c := by
  simp only [discardsAt, Bool.false_eq_true, if_false]
  cases judge bytes <;> simp

/-- A bad length, a bad type or a check that differs, each at the byte that shows it. -/
theorem framerDiscards_of_bad {c : DiscardCause} (h : judge bytes = .bad c) : framerDiscards bytes false := by
  have hjudged := judge_judged bytes
  rw [h] at hjudged
  cases hjudged with
  | badLength len hlen => exact ⟨[], len, rfl, .inl rfl, .inr (.inl ⟨rfl, hlen⟩)⟩
  | badType len kind hlen hpair =>
    rcases hlen with rfl | rfl
    · exact ⟨[5], kind, rfl, .inr (.inl rfl), .inr (.inr (.inl ⟨rfl, fun e => hpair (.inl ⟨rfl, e⟩)⟩))⟩
    · exact ⟨[6], kind, rfl, .inr (.inr (.inl rfl)), .inr (.inr (.inr (.inl ⟨rfl, fun e => hpair (.inr ⟨rfl, e⟩)⟩)))⟩
  | echoFails a q t1 t0 c1 c0 hcrc =>
    exact ⟨[5, 2, a, q, t1, t0, c1], c0, rfl, .inr (.inr (.inr (.inl ⟨[a, q, t1, t0, c1], rfl, by simp⟩))),
      .inr (.inr (.inr (.inr ⟨[5, 2, a, q, t1, t0], c1, rfl, .inl ⟨[a, q, t1, t0], rfl, rfl⟩, hcrc⟩)))⟩
  | noticeFails a n d1 d0 q c1 c0 hcrc =>
    exact ⟨[6, 3, a, n, d1, d0, q, c1], c0, rfl, .inr (.inr (.inr (.inr ⟨[a, n, d1, d0, q, c1], rfl, by simp⟩))),
      .inr (.inr (.inr (.inr ⟨[6, 3, a, n, d1, d0, q], c1, rfl, .inr ⟨[a, n, d1, d0, q], rfl, rfl⟩, hcrc⟩)))⟩

theorem bad_of_framerDiscards (h : framerDiscards bytes false) : ∃ c, judge bytes = .bad c := by
  obtain ⟨before, last, rfl, -, hwhy⟩ := h
  rcases hwhy with hstop | ⟨rfl, hlen⟩ | ⟨rfl, htype⟩ | ⟨rfl, htype⟩ | ⟨body, c, rfl, hbody, hcrc⟩
  · cases hstop
  · exact ⟨.badLength, (judge_of_bad_length hlen []).trans (if_pos rfl)⟩
  · refine ⟨.badType, (judge_of_bad_type (.inl rfl) ?_).trans (if_pos rfl)⟩
    rintro (⟨-, e⟩ | ⟨e, -⟩)
    · exact htype e
    · exact absurd e (by decide)
  · refine ⟨.badType, (judge_of_bad_type (.inr rfl) ?_).trans (if_pos rfl)⟩
    rintro (⟨e, -⟩ | ⟨-, e⟩)
    · exact absurd e (by decide)
    · exact htype e
  · rcases hbody with ⟨rest, rfl, hlen⟩ | ⟨rest, rfl, hlen⟩
    · match rest, hlen with
      | [a, q, t1, t0], _ => exact ⟨.checkFailure, (judge_echo_whole a q t1 t0 c last).trans (if_neg hcrc)⟩
    · match rest, hlen with
      | [a, n, d1, d0, q], _ => exact ⟨.checkFailure, (judge_notice_whole a n d1 d0 q c last).trans (if_neg hcrc)⟩

theorem discardsAt_iff (stop : Bool) : discardsAt bytes stop = true ↔ framerDiscards bytes stop := by
  cases stop with
  | false => exact discardsAt_of_mark_iff.trans ⟨fun ⟨c, h⟩ => framerDiscards_of_bad h, bad_of_framerDiscards⟩
  | true =>
    rw [discardsAt_of_stop_iff, judge_unfinished_iff]
    constructor
    · rintro ⟨hne, hcollecting⟩
      exact ⟨bytes.dropLast, bytes.getLast hne, (List.dropLast_append_getLast hne).symm, hcollecting, .inl rfl⟩
    · rintro ⟨before, last, rfl, hcollecting, -⟩
      exact ⟨by simp, by rwa [List.dropLast_concat]⟩

end

section
variable {k : TrunkNo} {bits : List Bool} {stop : Bool} {bytes : List Byte} {instant : Instant} {ticks : Nat} {s : State}

theorem execReceiveFrameDiscard_of_discards (hmode : s.port.mode = .align)
    (hframer : (s.trunks.get k).framer = .collecting instant) (hbits : openFrameBytes? bits = some bytes)
    (hdiscards : framerDiscards bytes stop) :
    execReceiveFrameDiscard k bits stop s = .next (s.putTrunk k (s.trunks.get k).discardFrame) := by
  simp only [execReceiveFrameDiscard, hmode, hframer, hbits, (discardsAt_iff stop).mpr hdiscards, if_true]

theorem execReceiveFrameDiscard_off_occasion
    (h : s.port.mode = .bench ∨ (∀ instant, (s.trunks.get k).framer ≠ .collecting instant)
      ∨ ∀ bytes, openFrameBytes? bits = some bytes → ¬framerDiscards bytes stop) :
    execReceiveFrameDiscard k bits stop s = .next s := by
  refine congrArg Host.Outcome.next ?_
  split
  next instant bytes hmode hframer hbits =>
    rcases h with h | h | h
    · rw [hmode] at h
      cases h
    · exact absurd hframer (h instant)
    · exact if_neg fun hd => h bytes hbits ((discardsAt_iff stop).mp hd)
  · rfl

/-! ### RECEIVE_GAP -/

theorem execReceiveGap_of_gap (hmode : s.port.mode = .align) (hframer : (s.trunks.get k).framer = .collecting instant)
    (h : 20 * 40000000 < ticks * (s.trunks.get k).rate.bps) :
    execReceiveGap k ticks s = .next (s.putTrunk k (s.trunks.get k).discardFrame) := by
  have hgap : isGap (s.trunks.get k).rate ticks = true := decide_eq_true h
  simp only [execReceiveGap, hmode, hframer, hgap]

theorem execReceiveGap_off_occasion
    (h : s.port.mode = .bench ∨ (∀ instant, (s.trunks.get k).framer ≠ .collecting instant)
      ∨ ticks * (s.trunks.get k).rate.bps ≤ 20 * 40000000) : execReceiveGap k ticks s = .next s := by
  refine congrArg Host.Outcome.next ?_
  split
  next instant hmode hframer hgap =>
    have hlong : 20 * 40000000 < ticks * (s.trunks.get k).rate.bps := of_decide_eq_true hgap
    rcases h with h | h | h
    · rw [hmode] at h
      cases h
    · exact absurd hframer (h instant)
    · exact absurd h (Nat.not_le.mpr hlong)
  · rfl

end

/-- Settles O46: a delimiter, a discard and a gap, each on its occasion and off it. -/
theorem framerFindsAndDiscards : Obligations.FramerFindsAndDiscards := by
  rintro k s tr rfl
  refine ⟨?delimiter, fun bits stop => ⟨fun instant bytes hmode hframer hbits hdiscards =>
    completes_putTrunk (execReceiveFrameDiscard_of_discards hmode hframer hbits hdiscards),
    execReceiveFrameDiscard_off_occasion⟩, fun ticks => ⟨fun instant hmode hframer hlong =>
    completes_putTrunk (execReceiveGap_of_gap hmode hframer hlong), execReceiveGap_off_occasion⟩⟩
  case delimiter =>
    rintro line seen bytes hseen rfl
    obtain rfl : seen = huntedBytes line := hseen
    refine ⟨fun earlier ticks rest hend => ⟨fun instant hmode hframer hfirst hnow hmin hmax => ?_, fun hno => ?_⟩, fun hno => ?_⟩
    · refine completes_putTrunk (execDelimiterFound_of_found hmode hframer ?_ ?_)
      · rw [hunt_false_iff, hend, List.map_append]
        exact endsAtFirstDelimiter_of_first hfirst
      · rw [hend, delimiterInstant_of_end, if_pos ⟨hmin, hmax⟩, hnow]
    · refine execDelimiterFound_off_occasion (.inr (.inr (.inr ?_)))
      rw [hend, delimiterInstant_of_end]
      split
      next hin =>
        rcases hno with h | h | h
        · exact absurd hin.1 (Nat.not_le.mpr h)
        · exact absurd hin.2 (Nat.not_le.mpr h)
        · exact h
      · rfl
    · refine execDelimiterFound_off_occasion (hno.imp_right (Or.imp_right fun h => .inl ?_))
      rw [hunt_false_iff]
      rintro ⟨⟨a, ha⟩, hfirst⟩
      rcases h with h | ⟨b, c, hc, hb⟩
      · exact h a ha
      · exact hc (hfirst b c hb)

end Sys2Proof.Machine
end

section
/-! Proofs of the command frames O3 and O4: the bytes on SDI (R176), the tests of R178 over the catalogue, and the round trip
through the encoder (R185). -/

namespace Sys2Proof.Machine

/-! ### The bits on SDI (R176) -/

theorem sdiBytes_of_few {odd : List Bool} (h : odd.length < 8) : sdiBytes odd = [] := by
  match odd, h with
  | [], _ => rfl
  | [_], _ => rfl
  | [_, _], _ => rfl
  | [_, _, _], _ => rfl
  | [_, _, _, _], _ => rfl
  | [_, _, _, _, _], _ => rfl
  | [_, _, _, _, _, _], _ => rfl
  | [_, _, _, _, _, _, _], _ => rfl

theorem ofBits_byte (b : Byte) :
    BitVec.ofNat 8 (((List.range 8).map fun i => b.getMsbD i).foldl (fun n b => 2 * n + b.toNat) 0) = b := by
  revert b
  decide

theorem sdiBytes_byte (b : Byte) (bits : List Bool) :
    sdiBytes (((List.range 8).map fun i => b.getMsbD i) ++ bits) = b :: sdiBytes bits :=
  congrArg (fun x => x :: sdiBytes bits) (ofBits_byte b)

/-- The bits of some bytes, most significant first, give these bytes; those of an incomplete byte are ignored. -/
theorem sdiBytes_bits (bytes : List Byte) {odd : List Bool} (h : odd.length < 8) :
    sdiBytes ((bytes.flatMap fun b => (List.range 8).map fun i => b.getMsbD i) ++ odd) = bytes := by
  induction bytes with
  | nil => exact sdiBytes_of_few h
  | cons b bytes ih => rw [List.flatMap_cons, List.append_assoc, sdiBytes_byte, ih]

/-! ### The catalogue (section 10.3) -/

/-- The codes whose parameters are of one length, with that length. -/
def fixedLengths : List (Byte × Nat) :=
  [(0x01, 2), (0x02, 0), (0x03, 0), (0x04, 2), (0x10, 5), (0x11, 0), (0x18, 9), (0x19, 1), (0x20, 3), (0x21, 0), (0x30, 8),
    (0x31, 9), (0x32, 2), (0x33, 1), (0x34, 1), (0x35, 1), (0x41, 1), (0x42, 1), (0x48, 2), (0x51, 1), (0x52, 0), (0x58, 0)]

theorem knownCode_iff (code : Byte) :
    knownCode code = true ↔ code ∈ fixedLengths.map Prod.fst ∨ code = 0x40 ∨ code = 0x50 := by
  revert code
  decide

/-- The parameters are of the length that the command requires: ZONE.DEFINE counts its members, BATCH.POST its payload. -/
def parametersFit (code : Byte) (p : List Byte) : Prop :=
  (code, p.length) ∈ fixedLengths ∨ (code = 0x40 ∧ 5 ≤ p.length ∧ p.length = 5 + 3 * (p.getD 4 0).toNat)
    ∨ (code = 0x50 ∧ 6 ≤ p.length ∧ p.length = 6 + (p.getD 5 0).toNat)

/-! ### Members of a ZONE.DEFINE -/

theorem memberPairs_length {l : List Byte} {members : List (Byte × BitVec 16)} (h : memberPairs l = some members) :
    l.length = 3 * members.length := by
  induction l using memberPairs.induct generalizing members with
  | case1 =>
    cases h
    rfl
  | case2 site p1 p0 rest ih =>
    obtain ⟨tail, htail, rfl⟩ := Option.map_eq_some_iff.mp h
    simp only [List.length_cons, ih htail]
    omega
  | case3 l hnil hcons =>
    rw [memberPairs] at h
    · cases h
    · exact hnil
    · exact hcons

theorem memberPairs_of_length (n : Nat) {l : List Byte} (h : l.length = 3 * n) :
    ∃ members, memberPairs l = some members ∧ members.length = n := by
  induction n generalizing l with
  | zero => exact ⟨[], by rw [List.eq_nil_of_length_eq_zero h]; rfl, rfl⟩
  | succ n ih =>
    match l, h with
    | site :: p1 :: p0 :: rest, h =>
      have hrest : rest.length = 3 * n := by
        simp only [List.length_cons] at h
        omega
      obtain ⟨members, hmembers, hlen⟩ := ih hrest
      exact ⟨(site, p1 ++ p0) :: members, by rw [memberPairs, hmembers, Option.map_some], by rw [List.length_cons, hlen]⟩

/-! ### Parameters of the required length (R178) -/

/-- The frame spells a command, or it is a CONFIG.SET of an unknown parameter (R182). -/
def spellsOrUnknown (code : Byte) (p : List Byte) : Prop :=
  (∃ c, commandOf code p = .ok c)
    ∨ (code = 0x10 ∧ ((p.getD 0 0).toNat = 0 ∨ 9 < (p.getD 0 0).toNat) ∧ commandOf code p = .error .unknownParameter)

theorem configCommand_cases (code : Byte) (value : BitVec 32) :
    (∃ c, configCommand code value = .ok c)
      ∨ ((code.toNat = 0 ∨ 9 < code.toNat) ∧ configCommand code value = .error .unknownParameter) := by
  unfold configCommand
  split
  case h_10 =>
    refine .inr ⟨?_, rfl⟩
    by_contra hne
    obtain ⟨hzero, hnine⟩ := not_or.mp hne
    have hle : code.toNat ≤ 9 := Nat.not_lt.mp hnine
    interval_cases code.toNat <;> simp_all
  all_goals exact .inl ⟨_, rfl⟩

section
variable {code : Byte}

theorem commandOf_no_parameter (h : code ∈ [(0x02 : Byte), 0x03, 0x11, 0x21, 0x52, 0x58]) :
    ∃ c, commandOf code [] = .ok c := by
  fin_cases h <;> exact ⟨_, rfl⟩

theorem commandOf_one_parameter (h : code ∈ [(0x19 : Byte), 0x33, 0x34, 0x35, 0x41, 0x42, 0x51]) (a : Byte) :
    ∃ c, commandOf code [a] = .ok c := by
  fin_cases h <;> exact ⟨_, rfl⟩

theorem commandOf_two_parameters (h : code ∈ [(0x01 : Byte), 0x04, 0x32, 0x48]) (a b : Byte) :
    ∃ c, commandOf code [a, b] = .ok c := by
  fin_cases h <;> exact ⟨_, rfl⟩

theorem commandOf_nine_parameters (h : code ∈ [(0x18 : Byte), 0x31]) (a b c d e f g i j : Byte) :
    ∃ x, commandOf code [a, b, c, d, e, f, g, i, j] = .ok x := by
  fin_cases h <;> exact ⟨_, rfl⟩

/-- A command of one length with parameters of that length. -/
theorem commandOf_of_fixed {p : List Byte} (h : (code, p.length) ∈ fixedLengths) : spellsOrUnknown code p := by
  match p, h with
  | [], h => exact .inl (commandOf_no_parameter (by simpa [fixedLengths] using h))
  | [a], h => exact .inl (commandOf_one_parameter (by simpa [fixedLengths] using h) a)
  | [a, b], h => exact .inl (commandOf_two_parameters (by simpa [fixedLengths] using h) a b)
  | [a, b, c], h =>
    obtain rfl : code = 0x20 := by simpa [fixedLengths] using h
    exact .inl ⟨_, rfl⟩
  | [a, b, c, d, e], h =>
    obtain rfl : code = 0x10 := by simpa [fixedLengths] using h
    exact (configCommand_cases a (b ++ c ++ d ++ e)).imp id fun hunknown => ⟨rfl, hunknown⟩
  | [a, b, c, d, e, f, g, i], h =>
    obtain rfl : code = 0x30 := by simpa [fixedLengths] using h
    exact .inl ⟨_, rfl⟩
  | [a, b, c, d, e, f, g, i, j], h =>
    exact .inl (commandOf_nine_parameters (by simpa [fixedLengths] using h) a b c d e f g i j)
  | [_, _, _, _], h | [_, _, _, _, _, _], h | [_, _, _, _, _, _, _], h | _ :: _ :: _ :: _ :: _ :: _ :: _ :: _ :: _ :: _ :: _, h =>
    simp [fixedLengths] at h

theorem commandOf_zoneDefine (zone t1 t0 yieldMember count : Byte) (rest : List Byte) :
    commandOf 0x40 (zone :: t1 :: t0 :: yieldMember :: count :: rest) =
      (memberPairs rest).elim (.error .badLength) fun members =>
        if members.length = count.toNat then .ok (.zoneDefine zone (t1 ++ t0) yieldMember members)
        else .error .badLength := by
  change (match memberPairs rest with
    | some members =>
      if members.length = count.toNat then .ok (.zoneDefine zone (t1 ++ t0) yieldMember members) else .error .badLength
    | none => .error .badLength : Except FrameFault Instr) = _
  cases memberPairs rest <;> rfl

theorem commandOf_batchPost (tag r3 r2 r1 r0 len : Byte) (payload : List Byte) :
    commandOf 0x50 (tag :: r3 :: r2 :: r1 :: r0 :: len :: payload) =
      if payload.length = len.toNat then .ok (.batchPost tag (r3 ++ r2 ++ r1 ++ r0) payload) else .error .badLength := rfl

theorem commandOf_of_fit {p : List Byte} (h : parametersFit code p) : spellsOrUnknown code p := by
  rcases h with h | ⟨rfl, hmin, hlen⟩ | ⟨rfl, hmin, hlen⟩
  · exact commandOf_of_fixed h
  · match p, hmin with
    | zone :: t1 :: t0 :: yieldMember :: count :: rest, _ =>
      have hrest : rest.length = 3 * count.toNat := by
        simp only [List.length_cons, List.getD_cons_succ, List.getD_cons_zero] at hlen
        omega
      obtain ⟨members, hmembers, hcount⟩ := memberPairs_of_length _ hrest
      refine .inl ⟨.zoneDefine zone (t1 ++ t0) yieldMember members, ?_⟩
      rw [commandOf_zoneDefine, hmembers, Option.elim_some, if_pos hcount]
  · match p, hmin with
    | tag :: r3 :: r2 :: r1 :: r0 :: len :: payload, _ =>
      have hpayload : payload.length = len.toNat := by
        simp only [List.length_cons, List.getD_cons_succ, List.getD_cons_zero] at hlen
        omega
      exact .inl ⟨_, (commandOf_batchPost ..).trans (if_pos hpayload)⟩

theorem commandOf_of_other_than_none {p : List Byte} (h : code ∈ [(0x02 : Byte), 0x03, 0x11, 0x21, 0x52, 0x58])
    (hp : p.length ≠ 0) : commandOf code p = .error .badLength := by
  match p, hp with
  | _ :: _, _ => fin_cases h <;> rfl

theorem commandOf_of_other_than_one {p : List Byte} (h : code ∈ [(0x19 : Byte), 0x33, 0x34, 0x35, 0x41, 0x42, 0x51])
    (hp : p.length ≠ 1) : commandOf code p = .error .badLength := by
  match p, hp with
  | [], _ | _ :: _ :: _, _ => fin_cases h <;> rfl

theorem commandOf_of_other_than_two {p : List Byte} (h : code ∈ [(0x01 : Byte), 0x04, 0x32, 0x48])
    (hp : p.length ≠ 2) : commandOf code p = .error .badLength := by
  match p, hp with
  | [], _ | [_], _ | _ :: _ :: _ :: _, _ => fin_cases h <;> rfl

theorem commandOf_of_other_than_three {p : List Byte} (hp : p.length ≠ 3) : commandOf 0x20 p = .error .badLength := by
  match p, hp with
  | [], _ | [_], _ | [_, _], _ | _ :: _ :: _ :: _ :: _, _ => rfl

theorem commandOf_of_other_than_five {p : List Byte} (hp : p.length ≠ 5) : commandOf 0x10 p = .error .badLength := by
  match p, hp with
  | [], _ | [_], _ | [_, _], _ | [_, _, _], _ | [_, _, _, _], _ | _ :: _ :: _ :: _ :: _ :: _ :: _, _ => rfl

theorem commandOf_of_other_than_eight {p : List Byte} (hp : p.length ≠ 8) : commandOf 0x30 p = .error .badLength := by
  match p, hp with
  | [], _ | [_], _ | [_, _], _ | [_, _, _], _ | [_, _, _, _], _ | [_, _, _, _, _], _ | [_, _, _, _, _, _], _
  | [_, _, _, _, _, _, _], _ | _ :: _ :: _ :: _ :: _ :: _ :: _ :: _ :: _ :: _, _ => rfl

theorem commandOf_of_other_than_nine {p : List Byte} (h : code ∈ [(0x18 : Byte), 0x31]) (hp : p.length ≠ 9) :
    commandOf code p = .error .badLength := by
  match p, hp with
  | [], _ | [_], _ | [_, _], _ | [_, _, _], _ | [_, _, _, _], _ | [_, _, _, _, _], _ | [_, _, _, _, _, _], _
  | [_, _, _, _, _, _, _], _ | [_, _, _, _, _, _, _, _], _
  | _ :: _ :: _ :: _ :: _ :: _ :: _ :: _ :: _ :: _ :: _, _ => fin_cases h <;> rfl

/-- A command of one length with parameters of another. -/
theorem commandOf_of_not_fixed {p : List Byte} (hcode : code ∈ fixedLengths.map Prod.fst)
    (h : (code, p.length) ∉ fixedLengths) : commandOf code p = .error .badLength := by
  have hother {n : Nat} (hn : (code, n) ∈ fixedLengths) : p.length ≠ n := fun e => h (e ▸ hn)
  have hgroups : code ∈ [(0x02 : Byte), 0x03, 0x11, 0x21, 0x52, 0x58] ∨ code ∈ [(0x19 : Byte), 0x33, 0x34, 0x35, 0x41, 0x42, 0x51]
      ∨ code ∈ [(0x01 : Byte), 0x04, 0x32, 0x48] ∨ code = 0x20 ∨ code = 0x10 ∨ code = 0x30 ∨ code ∈ [(0x18 : Byte), 0x31] := by
    revert hcode
    clear h hother
    revert code
    decide
  rcases hgroups with hc | hc | hc | rfl | rfl | rfl | hc
  · exact commandOf_of_other_than_none hc (hother (by fin_cases hc <;> simp [fixedLengths]))
  · exact commandOf_of_other_than_one hc (hother (by fin_cases hc <;> simp [fixedLengths]))
  · exact commandOf_of_other_than_two hc (hother (by fin_cases hc <;> simp [fixedLengths]))
  · exact commandOf_of_other_than_three (hother (by simp [fixedLengths]))
  · exact commandOf_of_other_than_five (hother (by simp [fixedLengths]))
  · exact commandOf_of_other_than_eight (hother (by simp [fixedLengths]))
  · exact commandOf_of_other_than_nine hc (hother (by fin_cases hc <;> simp [fixedLengths]))

theorem commandOf_zoneDefine_of_misfit {p : List Byte} (h : ¬(5 ≤ p.length ∧ p.length = 5 + 3 * (p.getD 4 0).toNat)) :
    commandOf 0x40 p = .error .badLength := by
  match p, h with
  | [], _ | [_], _ | [_, _], _ | [_, _, _], _ | [_, _, _, _], _ => rfl
  | zone :: t1 :: t0 :: yieldMember :: count :: rest, h =>
    rw [commandOf_zoneDefine]
    cases hmembers : memberPairs rest with
    | none => rfl
    | some members =>
      refine if_neg fun hcount => h ?_
      have hlen := memberPairs_length hmembers
      simp only [List.length_cons, List.getD_cons_succ, List.getD_cons_zero]
      omega

theorem commandOf_batchPost_of_misfit {p : List Byte} (h : ¬(6 ≤ p.length ∧ p.length = 6 + (p.getD 5 0).toNat)) :
    commandOf 0x50 p = .error .badLength := by
  match p, h with
  | [], _ | [_], _ | [_, _], _ | [_, _, _], _ | [_, _, _, _], _ | [_, _, _, _, _], _ => rfl
  | tag :: r3 :: r2 :: r1 :: r0 :: len :: payload, h =>
    refine (commandOf_batchPost ..).trans (if_neg fun hlen => h ?_)
    simp only [List.length_cons, List.getD_cons_succ, List.getD_cons_zero]
    omega

/-- Parameters of any other length are BAD_LENGTH. -/
theorem commandOf_of_not_fit {p : List Byte} (hknown : knownCode code = true) (h : ¬parametersFit code p) :
    commandOf code p = .error .badLength := by
  simp only [parametersFit, not_or] at h
  obtain ⟨hfixed, hzone, hbatch⟩ := h
  rcases (knownCode_iff code).mp hknown with hcode | rfl | rfl
  · exact commandOf_of_not_fixed hcode hfixed
  · exact commandOf_zoneDefine_of_misfit fun hfit => hzone ⟨rfl, hfit⟩
  · exact commandOf_batchPost_of_misfit fun hfit => hbatch ⟨rfl, hfit⟩

end

/-! ### The tests of R178 in their order -/

section
variable {code len : Byte} {rest : List Byte}

theorem parseFrame_of_unknown (h : ¬knownCode code = true) : parseFrame (code :: len :: rest) = .error .badCommand := by
  simp only [parseFrame, h, Bool.false_eq_true, if_false]

theorem parseFrame_of_length (hknown : knownCode code = true) (h : 200 < len.toNat ∨ rest.length < len.toNat) :
    parseFrame (code :: len :: rest) = .error .badLength := by
  simp only [parseFrame, hknown, h, if_true]

theorem parseFrame_of_parameters (hknown : knownCode code = true) (hmax : len.toNat ≤ 200) (hrest : len.toNat ≤ rest.length) :
    parseFrame (code :: len :: rest) = commandOf code (rest.take len.toNat) := by
  have h : ¬(200 < len.toNat ∨ rest.length < len.toNat) := by omega
  simp only [parseFrame, hknown, h, if_true, if_false]

theorem getD_take {α : Type} {l : List α} {n i : Nat} (h : i < n) (d : α) : (l.take n).getD i d = l.getD i d := by
  rw [List.getD_eq_getElem?_getD, List.getElem?_take_of_lt h, ← List.getD_eq_getElem?_getD]

theorem parametersFit_take_iff (hrest : len.toNat ≤ rest.length) :
    parametersFit code (rest.take len.toNat) ↔ (code, len.toNat) ∈ fixedLengths
      ∨ (code = 0x40 ∧ 5 ≤ len.toNat ∧ len.toNat = 5 + 3 * (rest.getD 4 0).toNat)
      ∨ (code = 0x50 ∧ 6 ≤ len.toNat ∧ len.toNat = 6 + (rest.getD 5 0).toNat) := by
  have hlen : (rest.take len.toNat).length = len.toNat := List.length_take_of_le hrest
  rw [parametersFit, hlen]
  refine or_congr Iff.rfl (or_congr (and_congr_right fun _ => and_congr_right fun h => ?_)
    (and_congr_right fun _ => and_congr_right fun h => ?_))
  · rw [getD_take (by omega)]
  · rw [getD_take (by omega)]

end

/-- Settles O3: the bits, the four tests of R178 in their order, and the frames written out. -/
theorem commandFramesSpellCommands : Obligations.CommandFramesSpellCommands := by
  refine ⟨fun bytes odd h => sdiBytes_bits bytes h, fun bytes h => ?_, ?_, rfl, rfl, rfl, rfl, rfl, rfl, rfl, rfl, rfl, rfl⟩
  · match bytes, h with
    | [], _ => rfl
    | [_], _ => rfl
  rintro fixed hfixed code len rest
  obtain rfl : fixed = fixedLengths := hfixed
  refine ⟨fun hcode hzone hbatch => parseFrame_of_unknown fun hknown => ?_, fun hcode => ?_⟩
  · exact ((knownCode_iff code).mp hknown).elim hcode fun h => h.elim hzone hbatch
  have hknown := (knownCode_iff code).mpr hcode
  refine ⟨parseFrame_of_length hknown, fun hmax hrest required hrequired => ?_⟩
  rw [parseFrame_of_parameters hknown hmax hrest, hrequired, ← parametersFit_take_iff hrest]
  refine ⟨commandOf_of_not_fit hknown, fun hfit => (commandOf_of_fit hfit).imp id ?_⟩
  rintro ⟨rfl, hparameter, hcommand⟩
  have hfive : len.toNat = 5 := by simpa [fixedLengths, parametersFit, List.length_take_of_le hrest] using hfit
  rw [getD_take (by omega)] at hparameter
  exact ⟨rfl, hparameter, hcommand⟩

end Sys2Proof.Machine
end

section
/-! Proof of O4: reading an encoded frame gives the command back (R185). -/

namespace Sys2Proof.Machine

/-! ### The bytes of a field -/

theorem extract_append_extract {w : Nat} (v : BitVec (w + 8)) : v.extractLsb' 8 w ++ v.extractLsb' 0 8 = v := by
  refine BitVec.eq_of_getLsbD_eq fun i hi => ?_
  rw [BitVec.getLsbD_append, BitVec.getLsbD_extractLsb', BitVec.getLsbD_extractLsb', Nat.zero_add]
  split
  next hlow => rw [decide_eq_true hlow, Bool.true_and]
  next hhigh =>
    have hw : i - 8 < w := by omega
    rw [decide_eq_true hw, Bool.true_and, show 8 + (i - 8) = i by omega]

/-- A field is sent as its upper bytes and then its lowest. -/
theorem bytesOf_succ {w : Nat} (n : Nat) (v : BitVec (w + 8)) :
    bytesOf (n + 1) v.toNat = bytesOf n (v.extractLsb' 8 w).toNat ++ [v.extractLsb' 0 8] := by
  have hhigh : (v.extractLsb' 8 w).toNat = v.toNat / 256 := by
    rw [BitVec.extractLsb'_toNat, Nat.shiftRight_eq_div_pow, Nat.mod_eq_of_lt]
    have hlt := v.isLt
    rw [Nat.pow_add] at hlt
    exact Nat.div_lt_of_lt_mul (by rwa [Nat.mul_comm])
  have hlow : BitVec.ofNat 8 v.toNat = v.extractLsb' 0 8 := by
    refine BitVec.eq_of_toNat_eq ?_
    rw [BitVec.extractLsb'_toNat, BitVec.toNat_ofNat, Nat.shiftRight_zero]
  rw [bytesOf, hhigh, hlow]

theorem exists_bytesOf_two (v : BitVec 16) : ∃ b1 b0 : Byte, bytesOf 2 v.toNat = [b1, b0] ∧ b1 ++ b0 = v :=
  ⟨_, _, bytesOf_two v, append_extract v⟩

theorem exists_bytesOf_three (v : BitVec 24) :
    ∃ b2 b1 b0 : Byte, bytesOf 3 v.toNat = [b2, b1, b0] ∧ b2 ++ b1 ++ b0 = v := by
  obtain ⟨b2, b1, hbytes, hvalue⟩ := exists_bytesOf_two (v.extractLsb' 8 16)
  refine ⟨b2, b1, v.extractLsb' 0 8, ?_, ?_⟩
  · rw [bytesOf_succ 2 v, hbytes, List.cons_append, List.cons_append, List.nil_append]
  · rw [hvalue]
    exact extract_append_extract v

theorem exists_bytesOf_four (v : BitVec 32) :
    ∃ b3 b2 b1 b0 : Byte, bytesOf 4 v.toNat = [b3, b2, b1, b0] ∧ b3 ++ b2 ++ b1 ++ b0 = v := by
  obtain ⟨b3, b2, b1, hbytes, hvalue⟩ := exists_bytesOf_three (v.extractLsb' 8 24)
  refine ⟨b3, b2, b1, v.extractLsb' 0 8, ?_, ?_⟩
  · rw [bytesOf_succ 3 v, hbytes, List.cons_append, List.cons_append, List.cons_append, List.nil_append]
  · rw [hvalue]
    exact extract_append_extract v

/-! ### The commands of the catalogue, encoded -/

/-- These are the code and the parameters, no more than a frame holds, that spell the command. -/
def spells (c : Instr) (code : Byte) (params : List Byte) : Prop :=
  knownCode code = true ∧ params.length ≤ 200 ∧ commandOf code params = .ok c

theorem spells_configSet {c : Instr} {n : Byte} {v : BitVec 32} (h : configCommand n v = .ok c) :
    spells c 0x10 (n :: bytesOf 4 v.toNat) := by
  obtain ⟨b3, b2, b1, b0, hbytes, rfl⟩ := exists_bytesOf_four v
  rw [hbytes]
  exact ⟨rfl, by simp, h⟩

theorem spells_trunkSet (trunk enable g : Byte) (rate bench : BitVec 24) :
    spells (.trunkSet trunk enable rate g bench) 0x18
      ([trunk, enable] ++ bytesOf 3 rate.toNat ++ [g] ++ bytesOf 3 bench.toNat) := by
  obtain ⟨r2, r1, r0, hrate, rfl⟩ := exists_bytesOf_three rate
  obtain ⟨b2, b1, b0, hbench, rfl⟩ := exists_bytesOf_three bench
  rw [hrate, hbench]
  exact ⟨rfl, by simp, rfl⟩

theorem spells_siteAdmit (site trunk address : Byte) (asym : BitVec 16) (trim : BitVec 24) :
    spells (.siteAdmit site trunk address asym trim) 0x30
      ([site, trunk, address] ++ bytesOf 2 asym.toNat ++ bytesOf 3 trim.toNat) := by
  obtain ⟨a1, a0, hasym, rfl⟩ := exists_bytesOf_two asym
  obtain ⟨t2, t1, t0, htrim, rfl⟩ := exists_bytesOf_three trim
  rw [hasym, htrim]
  exact ⟨rfl, by simp, rfl⟩

theorem spells_siteAmend (site mask trunk address : Byte) (asym : BitVec 16) (trim : BitVec 24) :
    spells (.siteAmend site mask asym trim trunk address) 0x31
      ([site, mask] ++ bytesOf 2 asym.toNat ++ bytesOf 3 trim.toNat ++ [trunk, address]) := by
  obtain ⟨a1, a0, hasym, rfl⟩ := exists_bytesOf_two asym
  obtain ⟨t2, t1, t0, htrim, rfl⟩ := exists_bytesOf_three trim
  rw [hasym, htrim]
  exact ⟨rfl, by simp, rfl⟩

theorem memberPairs_encoded (members : List (Byte × BitVec 16)) :
    memberPairs (members.flatMap fun m => m.1 :: bytesOf 2 m.2.toNat) = some members := by
  induction members with
  | nil => rfl
  | cons m members ih =>
    obtain ⟨p1, p0, hbytes, hvalue⟩ := exists_bytesOf_two m.2
    rw [List.flatMap_cons, hbytes, List.cons_append, List.cons_append, List.cons_append, List.nil_append, memberPairs, ih,
      hvalue, Option.map_some]

/-- A count that a frame has room for is read back from its byte. -/
theorem toNat_countByte {n : Nat} (h : n ≤ 200) : (BitVec.ofNat 8 n).toNat = n := by
  rw [BitVec.toNat_ofNat]
  exact Nat.mod_eq_of_lt (by omega)

theorem spells_zoneDefine (zone yieldMember : Byte) (tolerance : BitVec 16) {members : List (Byte × BitVec 16)}
    (h : 5 + 3 * members.length ≤ 200) :
    spells (.zoneDefine zone tolerance yieldMember members) 0x40
      (zone :: (bytesOf 2 tolerance.toNat ++ [yieldMember, BitVec.ofNat 8 members.length]
        ++ members.flatMap fun m => m.1 :: bytesOf 2 m.2.toNat)) := by
  obtain ⟨t1, t0, htolerance, rfl⟩ := exists_bytesOf_two tolerance
  have hmembers := memberPairs_encoded members
  have hlen := memberPairs_length hmembers
  rw [htolerance]
  refine ⟨rfl, ?_, ?_⟩
  · simp only [List.length_cons, List.length_append, List.length_nil, hlen]
    omega
  · refine (commandOf_zoneDefine zone t1 t0 yieldMember _ (members.flatMap fun m => m.1 :: bytesOf 2 m.2.toNat)).trans ?_
    rw [hmembers, Option.elim_some, if_pos (toNat_countByte (by omega)).symm]

theorem spells_batchPost (tag : Byte) (requested : Instant) {payload : List Byte} (h : 6 + payload.length ≤ 200) :
    spells (.batchPost tag requested payload) 0x50
      (tag :: (bytesOf 4 requested.toNat ++ [BitVec.ofNat 8 payload.length] ++ payload)) := by
  obtain ⟨r3, r2, r1, r0, hrequested, rfl⟩ := exists_bytesOf_four requested
  rw [hrequested]
  have hlen := toNat_countByte (n := payload.length) (by omega)
  refine ⟨rfl, ?_, (commandOf_batchPost tag r3 r2 r1 r0 _ payload).trans (if_pos hlen.symm)⟩
  simp only [List.length_cons, List.length_append, List.length_nil]
  omega

/-- Every well-formed host command is spelled by its code and parameters. -/
theorem frameParts_spells {c : Instr} {code : Byte} {params : List Byte} (hwf : c.WellFormed = true)
    (h : frameParts c = some (code, params)) : spells c code params := by
  have hparts {code' : Byte} {params' : List Byte} (e : frameParts c = some (code', params')) (hs : spells c code' params') :
      spells c code params := by
    obtain ⟨rfl, rfl⟩ := Prod.mk.inj (Option.some.inj (e.symm.trans h))
    exact hs
  cases c with
  | init mode selfTest => exact hparts rfl ⟨rfl, by simp, rfl⟩
  | nop | status | configGet | timeRead | batchReport | noticeTake => exact hparts rfl ⟨rfl, by simp, rfl⟩
  | trunkGet x | siteSuspend x | siteResume x | siteRetire x | zoneDelete x | zoneRead x | batchWithdraw x =>
    exact hparts rfl ⟨rfl, by simp, rfl⟩
  | siteRead x y | planRead x y => exact hparts rfl ⟨rfl, by simp, rfl⟩
  | ack causes =>
    obtain ⟨c1, c0, hbytes, rfl⟩ := exists_bytesOf_two causes
    refine hparts rfl ?_
    rw [hbytes]
    exact ⟨rfl, by simp, rfl⟩
  | calStart e =>
    obtain ⟨e2, e1, e0, hbytes, rfl⟩ := exists_bytesOf_three e
    refine hparts rfl ?_
    rw [hbytes]
    exact ⟨rfl, by simp, rfl⟩
  | configSetHorizon v | configSetJumpLimit v | configSetProbePeriod v | configSetProbeTimeout v | configSetHoldoverGrowth v
  | configSetUncertaintyCeiling v | configSetLaunchSpacing v | configSetDriftThreshold v | configSetAttentionMask v =>
    exact hparts rfl (spells_configSet rfl)
  | trunkSet trunk enable rate g bench => exact hparts rfl (spells_trunkSet ..)
  | siteAdmit site trunk address asym trim => exact hparts rfl (spells_siteAdmit ..)
  | siteAmend site mask asym trim trunk address => exact hparts rfl (spells_siteAmend ..)
  | zoneDefine zone tolerance yieldMember members => exact hparts rfl (spells_zoneDefine _ _ _ (of_decide_eq_true hwf))
  | batchPost tag requested payload => exact hparts rfl (spells_batchPost _ _ (of_decide_eq_true hwf))
  | _ => cases h

/-- What stands behind the parameters is not read. -/
theorem parseFrame_of_spells {c : Instr} {code : Byte} {params : List Byte} (h : spells c code params) (extra : List Byte) :
    parseFrame (code :: BitVec.ofNat 8 params.length :: params ++ extra) = .ok c := by
  obtain ⟨hknown, hmax, hcommand⟩ := h
  have hlen := toNat_countByte hmax
  refine (parseFrame_of_parameters (rest := params ++ extra) hknown (hlen.trans_le hmax) ?_).trans ?_
  · rw [hlen, List.length_append]
    omega
  · rw [hlen, List.take_left, hcommand]

/-- Settles O4, from the bytes and, by way of the bytes, from the bits. -/
theorem commandFrameRoundTrip : Obligations.CommandFrameRoundTrip := by
  intro c bytes extra odd hwf hencode
  obtain ⟨⟨code, params⟩, hparts, rfl⟩ := Option.map_eq_some_iff.mp hencode
  have hparse := parseFrame_of_spells (frameParts_spells hwf hparts) extra
  refine ⟨hparse, fun hodd => ?_⟩
  rw [parseBits, sdiBytes_bits _ hodd]
  exact hparse

end Sys2Proof.Machine
end

section
/-! Proof of O14: the data of the commands that only read, item by item (R14, R92, R120, R143, R181, R184, R185). -/

namespace Sys2Proof.Machine

/-! ### Bytes, presence fields and lists -/

theorem bytesOf_eq_map (n v : Nat) :
    bytesOf n v = (List.range n).map fun i => BitVec.ofNat 8 (v / 256 ^ (n - 1 - i)) := by
  induction n generalizing v with
  | zero => rfl
  | succ n ih =>
    rw [bytesOf, ih, List.range_succ, List.map_append]
    refine congrArg₂ (· ++ ·) (List.map_congr_left fun i hi => ?_) (by simp)
    have hi' : i < n := List.mem_range.mp hi
    have hexp : n + 1 - 1 - i = n - 1 - i + 1 := by omega
    rw [hexp, Nat.div_div_eq_div_mul, Nat.pow_succ, Nat.mul_comm]

/-- A list behind what comes before it: its count, and its entries. -/
theorem append_listItem {α : Type} (l : List Byte) (encode : α → List Byte) (items : List α) :
    l ++ listItem encode items = l ++ [byteOf items.length] ++ items.flatMap encode := by
  rw [listItem, List.append_assoc]
  rfl

theorem presenceByte_status (a b : Bool) : presenceByte [a, b] = byteOf (128 * a.toNat + 64 * b.toNat) := by
  cases a <;> cases b <;> rfl

theorem presenceByte_timeRead (m l c f : Bool) :
    presenceByte [m, m, m, l, c, f, l] = byteOf (224 * m.toNat + (18 * l.toNat + 8 * c.toNat + 4 * f.toNat)) := by
  refine congrArg (BitVec.ofNat 8) ?_
  simp only [List.foldl_cons, List.foldl_nil, List.length_cons, List.length_nil]
  omega

theorem presenceByte_trunkGet (d p r : Bool) :
    presenceByte [d, p, r] = byteOf (128 * d.toNat + 64 * p.toNat + 32 * r.toNat) := by
  refine congrArg (BitVec.ofNat 8) ?_
  simp only [List.foldl_cons, List.foldl_nil, List.length_cons, List.length_nil]
  omega

theorem presenceByte_zoneRead (e p w : Bool) :
    presenceByte [e, e, p, e, e, w] = byteOf (32 * p.toNat + (216 * e.toNat + 4 * w.toNat)) := by
  refine congrArg (BitVec.ofNat 8) ?_
  simp only [List.foldl_cons, List.foldl_nil, List.length_cons, List.length_nil]
  omega

/-! ### Bits and digits side by side in a number -/

/-- A number whose digits to the base `b` are given, the lowest first. -/
def digitSum {n : Nat} (b : Nat) (f : Fin n → Nat) : Nat := ((List.finRange n).map fun k => f k * b ^ k.val).sum

theorem digitSum_succ {n : Nat} (b : Nat) (f : Fin (n + 1) → Nat) :
    digitSum b f = f 0 + b * digitSum b fun k => f k.succ := by
  have htail : ((List.finRange n).map fun k : Fin n => f k.succ * b ^ (k.val + 1)).sum
      = b * ((List.finRange n).map fun k : Fin n => f k.succ * b ^ k.val).sum := by
    rw [← List.sum_map_mul_left]
    exact congrArg List.sum (List.map_congr_left fun k _ => by rw [Nat.pow_succ]; ac_rfl)
  simp only [digitSum, List.finRange_succ, List.map_cons, List.map_map, List.sum_cons, Function.comp_def, Fin.val_zero,
    Nat.pow_zero, Nat.mul_one, Fin.val_succ, htail]

theorem digitSum_lt {n b : Nat} (f : Fin n → Nat) (h : ∀ k, f k < b) : digitSum b f < b ^ n := by
  induction n with
  | zero => exact Nat.one_pos
  | succ n ih =>
    have htail : digitSum b (fun k => f k.succ) + 1 ≤ b ^ n := ih (fun k => f k.succ) fun k => h k.succ
    have hhead := h 0
    have hmul := Nat.mul_le_mul_left b htail
    rw [digitSum_succ, Nat.pow_succ, Nat.mul_comm (b ^ n)]
    rw [Nat.mul_add, Nat.mul_one] at hmul
    omega

theorem digitSum_digit {n b : Nat} (f : Fin n → Nat) (h : ∀ k, f k < b) (k : Fin n) :
    digitSum b f / b ^ k.val % b = f k := by
  induction n with
  | zero => exact k.elim0
  | succ n ih =>
    have hb : 0 < b := (Nat.zero_le _).trans_lt (h 0)
    rw [digitSum_succ]
    cases k using Fin.cases with
    | zero => rw [Fin.val_zero, Nat.pow_zero, Nat.div_one, Nat.add_mul_mod_self_left, Nat.mod_eq_of_lt (h 0)]
    | succ k =>
      rw [Fin.val_succ, Nat.pow_succ, Nat.mul_comm (b ^ k.val), ← Nat.div_div_eq_div_mul, Nat.add_mul_div_left _ _ hb,
        Nat.div_eq_of_lt (h 0), Nat.zero_add]
      exact ih (fun k => f k.succ) (fun k => h k.succ) k

theorem enabledBits_spec (s : State) (k : TrunkNo) :
    s.enabledBits < 256 ∧ s.enabledBits.testBit k.val = (s.trunks.get k).enable := by
  have hdigit (k : TrunkNo) : (s.trunks.get k).enable.toNat < 2 := Bool.toNat_lt _
  refine ⟨digitSum_lt (b := 2) _ hdigit, ?_⟩
  have hbit : s.enabledBits / 2 ^ k.val % 2 = (s.trunks.get k).enable.toNat :=
    digitSum_digit (b := 2) (fun k => (s.trunks.get k).enable.toNat) hdigit k
  rw [Nat.testBit_eq_decide_div_mod_eq, hbit]
  cases (s.trunks.get k).enable <;> rfl

theorem granBits_spec (g : Table Granularity 8) (k : TrunkNo) :
    granBits g < 65536 ∧ granBits g / 4 ^ k.val % 4 = (g.get k).code := by
  have hdigit (k : TrunkNo) : (g.get k).code < 4 := by
    cases g.get k <;> decide
  exact ⟨digitSum_lt (b := 4) _ hdigit, digitSum_digit (b := 4) (fun k => (g.get k).code) hdigit k⟩

/-- The causes of a set in the order of their ranks. -/
def CauseSet.ranked (p : CauseSet) : Fin 9 → Bool :=
  ![p.fault, p.cal, p.zone, p.suspect, p.holdover, p.step, p.notice, p.report, p.drift]

theorem CauseSet.toNat_eq (p : CauseSet) : p.toNat = digitSum 2 fun k => (p.ranked k).toNat := by
  simp [digitSum, CauseSet.toNat, CauseSet.ranked, List.finRange_succ]
  omega

theorem CauseSet.toNat_spec (p : CauseSet) : p.toNat < 512 ∧ ∀ c : Cause, p.toNat.testBit (c.rank - 1) = p.has c := by
  have hdigit (k : Fin 9) : (p.ranked k).toNat < 2 := Bool.toNat_lt _
  have hbit (k : Fin 9) : p.toNat.testBit k.val = p.ranked k := by
    rw [CauseSet.toNat_eq, Nat.testBit_eq_decide_div_mod_eq, digitSum_digit _ hdigit]
    cases p.ranked k <;> rfl
  refine ⟨?_, fun c => ?_⟩
  · rw [CauseSet.toNat_eq]
    exact digitSum_lt _ hdigit
  · cases c with
    | fault => exact hbit 0
    | cal => exact hbit 1
    | zone => exact hbit 2
    | suspect => exact hbit 3
    | holdover => exact hbit 4
    | step => exact hbit 5
    | notice => exact hbit 6
    | report => exact hbit 7
    | drift => exact hbit 8

/-! ### The entries of a PLAN.READ -/

/-- The numbers from one on, as many as asked for and as there are. -/
theorem finRange_section (n a c : Nat) :
    ((List.finRange n).drop a).take c = (List.finRange n).filter fun i => decide (a ≤ i.val ∧ i.val < a + c) := by
  have hbefore : ((List.finRange n).take a).filter (fun i => decide (a ≤ i.val ∧ i.val < a + c)) = [] := by
    refine List.filter_eq_nil_iff.mpr fun i hi => ?_
    obtain ⟨j, hj, rfl⟩ := List.mem_take_iff_getElem.mp hi
    simp only [List.getElem_finRange, Fin.val_cast, decide_eq_true_iff]
    omega
  have hwithin : (((List.finRange n).drop a).take c).filter (fun i => decide (a ≤ i.val ∧ i.val < a + c))
      = ((List.finRange n).drop a).take c := by
    refine List.filter_eq_self.mpr fun i hi => ?_
    obtain ⟨j, hj, rfl⟩ := List.mem_take_iff_getElem.mp hi
    simp only [List.getElem_drop, List.getElem_finRange, Fin.val_cast, decide_eq_true_iff]
    omega
  have hbehind : (((List.finRange n).drop a).drop c).filter (fun i => decide (a ≤ i.val ∧ i.val < a + c)) = [] := by
    refine List.filter_eq_nil_iff.mpr fun i hi => ?_
    rw [List.drop_drop] at hi
    obtain ⟨j, hj, rfl⟩ := List.mem_drop_iff_getElem.mp hi
    simp only [List.getElem_finRange, Fin.val_cast, decide_eq_true_iff]
    omega
  have hsplit : List.finRange n
      = (List.finRange n).take a ++ (((List.finRange n).drop a).take c ++ ((List.finRange n).drop a).drop c) := by
    rw [List.take_append_drop, List.take_append_drop]
  conv_rhs => rw [hsplit, List.filter_append, List.filter_append, hbefore, hwithin, hbehind]
  rw [List.nil_append, List.append_nil]

theorem Solver.length_entriesFrom (v : Solver) (first : SiteNo) (count : Nat) :
    (v.entriesFrom first count).length = min count (64 - first.val) := by
  simp [Solver.entriesFrom]

theorem Solver.flatMap_entriesFrom (v : Solver) (first : SiteNo) (count : Nat) :
    (v.entriesFrom first count).flatMap planEntryData =
      ((List.finRange 64).filter fun i => decide (first.val ≤ i.val ∧ i.val < first.val + count)).flatMap fun i =>
        planEntryData (v.disposition i) := by
  rw [Solver.entriesFrom, finRange_section, List.flatMap_map]

/-! ### What a read finds of a zone and of a probe -/

theorem isLater_eq (x y : Instant) :
    isLater x y = decide (1 ≤ (x - y).toNat ∧ (x - y).toNat < 2147483648) := by
  unfold isLater
  rw [decide_eq_decide]
  omega

/-- The first entry for a zone number is what a read of the zone finds (R121). -/
theorem Solver.zoneEntry_eq {v : Solver} {z : ZoneNo} {entry : Option ZoneEntry}
    (hsome : ∀ e, entry = some e → ∃ p before after, v.latest = some p ∧ p.zones = before ++ e :: after ∧ e.zone = z
      ∧ ∀ x ∈ before, x.zone ≠ z)
    (hnone : entry = none → ∀ p, v.latest = some p → ∀ e ∈ p.zones, e.zone ≠ z) : v.zoneEntry z = entry := by
  unfold Solver.zoneEntry
  cases entry with
  | none =>
    split
    next p hp => simpa using hnone rfl p hp
    · rfl
  | some e =>
    obtain ⟨p, before, after', hp, hzones, he, hbefore⟩ := hsome e rfl
    rw [hp]
    dsimp only
    rw [hzones, List.find?_eq_some_iff_append]
    exact ⟨decide_eq_true he, before, after', rfl, fun x hx => by simpa using hbefore x hx⟩

/-! ### The reads -/

/-- A measurement whose window deadline now has reached reads as ended (R5, R14). -/
theorem TimeBase.asRead_of_measuring {t : TimeBase} {m : Measurement} (h : t.cal = .measuring m) :
    t.asRead = if isLater m.deadline t.now then t else t.failed m .timeout none m.deadline := by
  simp only [TimeBase.asRead, h]

theorem TimeBase.asRead_of_not_measuring {t : TimeBase} (h : ∀ m, t.cal ≠ .measuring m) : t.asRead = t := by
  unfold TimeBase.asRead
  split
  next m hm => exact absurd hm (h m)
  · rfl
  · rfl

theorem trunkGetBlock_of_val {b : Byte} {k : TrunkNo} {s : State} (h : b.toNat = k.val) :
    trunkGetBlock b s = ({ code := .ok, data := s.trunkData k }, s) := by
  simp only [trunkGetBlock, trunkNo?_of_val h.symm]

theorem trunkGetBlock_of_out_of_range {b : Byte} {s : State} (h : 8 ≤ b.toNat) : trunkGetBlock b s = refuse .badValue s := by
  simp only [trunkGetBlock, trunkNo?_of_out_of_range h]

theorem zoneReadBlock_of_defined {b : Byte} {z : ZoneNo} {body : ZoneBody} {s : State} (h : b.toNat = z.val)
    (hbody : (s.zones.get z).body = some body) : zoneReadBlock b s = ({ code := .ok, data := s.zoneData z body }, s) := by
  simp only [zoneReadBlock, zoneNo?_of_val h.symm, hbody]

theorem zoneReadBlock_of_undefined {b : Byte} {z : ZoneNo} {s : State} (h : b.toNat = z.val)
    (hbody : (s.zones.get z).body = none) : zoneReadBlock b s = refuse .noSuch s := by
  simp only [zoneReadBlock, zoneNo?_of_val h.symm, hbody]

theorem zoneReadBlock_of_out_of_range {b : Byte} {s : State} (h : 32 ≤ b.toNat) : zoneReadBlock b s = refuse .badValue s := by
  simp only [zoneReadBlock, zoneNo?_of_out_of_range h]

theorem planReadBlock_of_val {first count : Byte} {i : SiteNo} {s : State} (h : first.toNat = i.val) (hmin : 1 ≤ count.toNat)
    (hmax : count.toNat ≤ 16) :
    planReadBlock first count s = ({ code := .ok, data := s.planData i count.toNat }, s) := by
  have hcount : ¬(count.toNat < 1 ∨ 16 < count.toNat) := by omega
  simp only [planReadBlock, siteNo?_of_val h.symm, if_neg hcount]

theorem planReadBlock_of_out_of_range {first count : Byte} {s : State}
    (h : 64 ≤ first.toNat ∨ count.toNat = 0 ∨ 16 < count.toNat) : planReadBlock first count s = refuse .badValue s := by
  unfold planReadBlock
  split
  · rfl
  next i hi =>
    have hfirst : first.toNat < 64 := by
      by_contra hout
      rw [siteNo?_of_out_of_range (Nat.not_lt.mp hout)] at hi
      cases hi
    exact if_pos (by omega)

/-- An absent number is sent as 0 (R181). -/
theorem optionalItem_number (n : Nat) (o : Option Nat) : optionalItem n (bytesOf n) o = bytesOf n (o.getD 0) := by
  cases o with
  | none => exact (bytesOf_zero n).symm
  | some v => rfl

theorem Solver.provisional_item (v : Solver) :
    optionalItem 1 (fun p => [boolByte p.provisional]) v.latest = [boolByte v.provisional] := by
  unfold Solver.provisional
  cases v.latest <;> rfl

theorem signedBytesOf_four (v : Int) : signedBytesOf 4 v = bytesOf 4 (v % 4294967296).toNat := by
  norm_num [signedBytesOf]

theorem Solver.disposition_of_empty {v : Solver} {i : SiteNo} (h : v.latest = none) : v.disposition i = .excluded .vacant := by
  simp only [Solver.disposition, h]

theorem Solver.disposition_of_plan {v : Solver} {p : Plan} {i : SiteNo} (h : v.latest = some p) :
    v.disposition i = p.sites.get i := by simp only [Solver.disposition, h]

/-- A command that every operating state takes and that leaves the state as it is only reads its data (R180, R184). -/
theorem reads_of_always {c : Instr} {block : State → Answer × State} {s : State} {data : List Byte}
    (hc : exec c s = .next (s.command .always block)) (hopen : s.port.frameOpen = true)
    (hb : block s = ({ code := .ok, data := data }, s)) : reads c data s := by
  have htaken : notTaken .always s.port.op = none := by
    cases s.port.op <;> rfl
  refine ⟨s.respond { code := .ok, data := data }, ⟨hc.trans ?_, State.respond_onlyChanges _ s⟩, rfl⟩
  simp only [State.command, hopen, htaken, hb, if_true]

/-- Settles O14: the data of each read item by item, and the reads with their refusals. -/
theorem readingCommandsChangeNothing : Obligations.ReadingCommandsChangeNothing := by
  refine ⟨fun s => ?status, enabledBits_spec, CauseSet.toNat_spec, fun r t measuring in' ht hm => ?time,
    fun s k tr probe htr hprobe => ?trunk, fun s z b entry hsome hnone => ?zone, fun s first count => ?plan,
    fun g k => ?gran, bytesOf_eq_map, fun s hopen => ⟨?nop, ?readStatus⟩, fun s hs => ⟨reads_of_block (k := .readyOnly) rfl hs rfl,
    fun b k h => reads_of_block (k := .readyOnly) rfl hs (trunkGetBlock_of_val h),
    fun b h => declined_of_refuse (k := .readyOnly) rfl hs (trunkGetBlock_of_out_of_range h),
    fun b z h => ⟨fun body hbody => reads_of_block (k := .readyOnly) rfl hs (zoneReadBlock_of_defined h hbody),
      fun hbody => declined_of_refuse (k := .readyOnly) rfl hs (zoneReadBlock_of_undefined h hbody)⟩,
    fun b h => declined_of_refuse (k := .readyOnly) rfl hs (zoneReadBlock_of_out_of_range h),
    fun first count i h hmin hmax => reads_of_block (k := .readyOnly) rfl hs (planReadBlock_of_val h hmin hmax),
    fun first count h => declined_of_refuse (k := .readyOnly) rfl hs (planReadBlock_of_out_of_range h)⟩⟩
  case status =>
    simp only [State.statusData, presenceByte_status, State.sitesIn, Table.count_eq]
    cases s.port.failing <;> cases s.attention.calOutcome <;> rfl
  case time =>
    have hread : r.asRead = t := by
      rw [ht]
      cases hcal : r.cal with
      | measuring m =>
        rw [TimeBase.asRead_of_measuring hcal, isLater_eq]
        simp only [decide_eq_true_iff]
        rfl
      | uncalibrated | calibrated => exact TimeBase.asRead_of_not_measuring (by simp [hcal])
    rw [TimeBase.readData, hread]
    simp only [TimeBase.items, presenceByte_timeRead, optionalItem_number]
    cases hcal : t.cal with
    | measuring m =>
      rw [hcal] at hm
      obtain ⟨rfl, rfl⟩ := hm
      cases t.last <;> simp [optionalItem, zeroBytes, lead, bytesOf, byteOf]
    | uncalibrated | calibrated =>
      rw [hcal] at hm
      obtain ⟨rfl, rfl⟩ := hm
      cases t.last <;> simp [optionalItem, zeroBytes, bytesOf, byteOf]
  case trunk =>
    subst htr hprobe
    have hprobe : ((s.trunks.get k).outstanding.bind fun o =>
        if 1 ≤ (o.deadline - s.time.now).toNat ∧ (o.deadline - s.time.now).toNat < 2147483648 then some o else none)
          = (s.trunks.get k).outstanding.filter fun o => isLater o.deadline s.time.now := by
      cases (s.trunks.get k).outstanding with
      | none => rfl
      | some o => simp only [Option.bind_some, Option.filter_some, isLater_eq, decide_eq_true_iff]
    simp only [State.trunkData, append_listItem, presenceByte_trunkGet, hprobe]
    congr 13
    · cases (s.trunks.get k).timer <;> rfl
    · cases (s.trunks.get k).timer <;> rfl
    · cases (s.trunks.get k).outstanding.filter fun o => isLater o.deadline s.time.now <;> rfl
    · cases (s.trunks.get k).tx with
      | none => rfl
      | some x =>
        obtain ⟨item, frame, startRaw⟩ := x
        cases item <;> rfl
    · exact List.map_eq_flatMap.symm
    · cases (s.trunks.get k).timer <;> rfl
  case zone =>
    simp only [State.zoneData, append_listItem, presenceByte_zoneRead, Solver.zoneEntry_eq hsome hnone, optionalItem_number,
      Solver.provisional_item]
    cases entry with
    | none => simp [optionalItem, zeroBytes, bytesOf, boolByte]
    | some e => simp [optionalItem]
  case plan =>
    simp only [State.planData, Solver.length_entriesFrom, Solver.flatMap_entriesFrom]
    refine congrArg₂ (· ++ ·) ?_ (List.flatMap_congr fun i _ => ?_)
    · cases s.solver.latest <;> simp [optionalItem, zeroBytes, Table.count_eq, List.countP_eq_length_filter]
    · cases hlatest : s.solver.latest with
      | none =>
        rw [Solver.disposition_of_empty hlatest]
        rfl
      | some p =>
        rw [Solver.disposition_of_plan hlatest, Option.map_some]
        cases p.sites.get i with
        | launch q | muted q => exact congrArg (List.cons _) (signedBytesOf_four _)
        | excluded reason => rfl
  case gran =>
    obtain ⟨hlt, hdigit⟩ := granBits_spec g k
    refine ⟨hlt, hdigit.trans ?_⟩
    cases g.get k <;> rfl
  case nop => exact reads_of_always rfl hopen rfl
  case readStatus => exact reads_of_always rfl hopen rfl

end Sys2Proof.Machine
end
